-- ==== Sys2Proof/Word.lean ====
section
/-! DEFINITION. The word types of the part: bytes of the bus and of the serial port, station addresses, claim tags, strap codes. -/

namespace Sys2Proof

/-- One character of the bus or one byte of the serial port. -/
abbrev Byte := BitVec 8

/-- A station address, 0 to 15 (00_scope, Principal figures). -/
abbrev Addr := Fin 16

/-- A claim tag, 0 to 15 (R79). -/
abbrev Tag := Fin 16

/-- A RATE strap code, 0 to 3 (R14). -/
abbrev RateCode := Fin 4

/-- Every station address, in rising order. -/
def allAddrs : List Addr := List.finRange 16

end Sys2Proof
end

