-- ==== Sys2Proof/Config.lean ====
section
/-! DEFINITION. What the part fixes and what its controller configures: the intervals of the pin summary, the
configuration values with their ranges and defaults. The spec leaves no result of a command undefined, so this file
declares no free value. -/

namespace Sys2Proof

/-- The ten configuration values of R149, in the units written to them. -/
structure Config where
  /-- index 0: station count N -/
  n : Nat
  /-- index 1: zone count Z -/
  z : Nat
  /-- index 2: steps per zone S -/
  s : Nat
  /-- index 3: footprint W, in zones -/
  w : Nat
  /-- index 4: look-ahead A, in zones -/
  a : Nat
  /-- index 5: step period, in 1 us units -/
  stepPeriod : Nat
  /-- index 6: presence interval P, in 10 ms units -/
  p : Nat
  /-- index 7: stall limit, in 10 ms units -/
  stallLimit : Nat
  /-- index 8: tracking tolerance T, in steps -/
  t : Nat
  /-- index 9: retain, 0 or 1 -/
  retain : Nat
deriving DecidableEq, Repr

/-- The defaults of R149. -/
def Config.default : Config :=
  { n := 16, z := 240, s := 400, w := 1, a := 2, stepPeriod := 1000, p := 10, stallLimit := 200, t := 4, retain := 0 }

/-- The range of each configuration index, lowest and highest value (R149); none from index 10 up. -/
def configRange : Nat → Option (Nat × Nat)
  | 0 => some (2, 16)
  | 1 => some (8, 240)
  | 2 => some (16, 4096)
  | 3 => some (1, 4)
  | 4 => some (1, 8)
  | 5 => some (50, 65535)
  | 6 => some (1, 255)
  | 7 => some (1, 1000)
  | 8 => some (0, 15)
  | 9 => some (0, 1)
  | _ => none

/-- The bit time in microseconds at a RATE code (R14). -/
def bitTime (r : RateCode) : Nat :=
  match r with
  | 0 => 8
  | 1 => 4
  | 2 => 2
  | 3 => 1

/-- The character time C in microseconds: 11 bit times (R14). -/
def charTime (r : RateCode) : Nat := 11 * bitTime r

/-- One unit of the presence interval and of the stall limit, 10 ms, in microseconds (R149). -/
def tenMs : Nat := 10000

/-- DIR changes this long before the STEP pulse begins, in microseconds (R185). -/
def dirSetupTime : Nat := 5

/-- The width of the STEP pulse in microseconds (R185). -/
def stepPulseWidth : Nat := 10

/-- The power-on time of R174, 20 ms, in microseconds (R185). -/
def powerOnTime : Nat := 20000

/-- The outgoing queue holds at most this many frames (R37). -/
def outQueueSize : Nat := 8

/-- The event queue holds at most this many records (R161). -/
def eventQueueSize : Nat := 16

/-- The frame buffer holds at most this many characters (R19). -/
def frameBufferSize : Nat := 8

end Sys2Proof
end

