-- ==== Sys2Proof/Syntax.lean ====
section
/-! DEFINITION. The commands of the part: one constructor of Instr for each row of spec/opcode_table.json, with the
types of their operands. A command that samples input pins carries their levels. -/

namespace Sys2Proof

/-- A side of a range, a claim, a move or a neighbour; DOWN is LOW and UP is HIGH (R1). -/
inductive Side where
  | down
  | up
deriving DecidableEq, Repr

/-- A range of zones: empty, or [lo, hi] (R8). -/
inductive ZRange where
  | empty
  | run (lo hi : Nat)
deriving DecidableEq, Repr

/-- The motion states, which are also the modes of PRESENCE (R117, R181). -/
inductive MotionState where
  | idle
  | moving
  | stalled
  | relocating
  | unplaced
  | halted
deriving DecidableEq, Repr

/-- The refusal reasons of R181. -/
inductive RefuseReason where
  | held
  | pending
  | adjacency
  | stranger
  | notJoined
  | occupied
  | overlap
  | intrusion
  | alive
deriving DecidableEq, Repr

/-- A frame of a defined kind with its fields; the sender stands beside it (R181). -/
inductive Frame where
  | presence (held occupied : ZRange) (mode : MotionState)
  | claim (addressee : Addr) (tag : Tag) (side : Side) (unopposed : Bool) (range : ZRange)
  | grant (claimant : Addr) (tag : Tag) (range : ZRange)
  | refuse (answered : Addr) (tag : Tag) (reason : RefuseReason)
  | release (range : ZRange)
  | join (attempt : Nat) (occupied : ZRange)
  | recall (joiner : Addr) (side : Side) (bound : Nat)
  | evict (target : Addr)
deriving DecidableEq, Repr

/-- The seven bytes of a request that follow its kind byte (R144). -/
structure Request where
  seq : Byte
  arg0 : Byte
  arg1 : Byte
  arg2 : Byte
  arg3 : Byte
  arg4 : Byte
  check : Byte
deriving DecidableEq, Repr

/-- The commands. `zone` is the code on the ZONE lines at the command's instant; `addr` and `rate` are the levels of
the straps at the end of a reset. -/
inductive Instr where
  /-- NOP request, taken at the release of chip select (R157) -/
  | nop (r : Request)
  /-- CONFIGURE request (R150) -/
  | configure (r : Request)
  /-- START request (R151) -/
  | start (r : Request) (zone : Byte)
  /-- MOVE request (R152) -/
  | move (r : Request)
  /-- STOP request (R133) -/
  | stop (r : Request)
  /-- RELOCATE request (R135) -/
  | relocate (r : Request) (zone : Byte)
  /-- EVICT request (R113) -/
  | evict (r : Request)
  /-- CLEAR_FAULT request (R171) -/
  | clearFault (r : Request)
  /-- RESET_STATION request (R176) -/
  | resetStation (r : Request) (addr : Addr) (rate : RateCode)
  /-- READ_STATUS request (R158) -/
  | readStatus (r : Request)
  /-- READ_PEER request (R159) -/
  | readPeer (r : Request)
  /-- TAKE_EVENT request (R163) -/
  | takeEvent (r : Request)
  /-- a full request whose kind byte is none of the twelve (R147) -/
  | unknownRequest (kind : Byte) (r : Request)
  /-- chip select released after another number of clock periods than 64 (R145) -/
  | cutTransaction (clocks : Nat)
  /-- a power-on reset begins (R174) -/
  | powerOnReset
  /-- the power-on time has run with the supply in range (R174) -/
  | powerOnTimeExpiry (addr : Addr) (rate : RateCode)
  /-- RESET_N is asserted, not filtered out (R175) -/
  | pinReset
  /-- RESET_N is released (R175) -/
  | pinResetRelease (addr : Addr) (rate : RateCode)
  /-- a start bit is confirmed (R17) -/
  | activity
  /-- the line has been recessive for more than 1 C in SEEK (R16) -/
  | lineIdle
  /-- the dominant interval in LOW exceeds 2 C (R18) -/
  | lineBreak
  /-- a burst ends and is judged a valid PRESENCE (R51) -/
  | presenceFrame (sender : Addr) (held occupied : ZRange) (mode : MotionState) (zone : Byte)
  /-- a burst ends and is judged a valid CLAIM (R89) -/
  | claimFrame (sender : Addr) (addressee : Addr) (tag : Tag) (side : Side) (unopposed : Bool) (range : ZRange) (zone : Byte)
  /-- a burst ends and is judged a valid GRANT (R54) -/
  | grantFrame (sender : Addr) (claimant : Addr) (tag : Tag) (range : ZRange) (zone : Byte)
  /-- a burst ends and is judged a valid REFUSE (R81) -/
  | refuseFrame (sender : Addr) (answered : Addr) (tag : Tag) (reason : RefuseReason) (zone : Byte)
  /-- a burst ends and is judged a valid RELEASE (R55) -/
  | releaseFrame (sender : Addr) (range : ZRange) (zone : Byte)
  /-- a burst ends and is judged a valid JOIN (R56) -/
  | joinFrame (sender : Addr) (attempt : Nat) (occupied : ZRange) (zone : Byte)
  /-- a burst ends and is judged a valid RECALL (R104) -/
  | recallFrame (sender : Addr) (joiner : Addr) (side : Side) (bound : Nat) (zone : Byte)
  /-- a burst ends and is judged a valid EVICT (R58) -/
  | evictFrame (sender : Addr) (target : Addr) (zone : Byte)
  /-- a burst ends and is judged a valid frame of kind UNDEFINED; its characters before the CRC (R22) -/
  | undefinedFrame (chars : List Byte) (zone : Byte)
  /-- a burst ends and is judged corrupted (R42) -/
  | corruptedFrame (zone : Byte)
  /-- the frame end plus 2 C is reached (R31) -/
  | settleEnd
  /-- a slot ends idle (R32) -/
  | slotBoundary (zone : Byte)
  /-- the line has stayed idle for 2 C + N C from t0 in UNSYNCED (R30) -/
  | unsyncedIdleExpiry
  /-- the age of an entry reaches 3 P (R59) -/
  | ageExpiry (peer : Addr)
  /-- the re-arm timer reaches P (R75) -/
  | rearmTimerExpiry
  /-- the listen timer reaches 2 P (R99) -/
  | listenTimerExpiry (zone : Byte)
  /-- in join phase READING the timer reaches P (R102) -/
  | joinReadingRetry (zone : Byte)
  /-- the presence timer reaches P (R111) -/
  | presenceTimerExpiry
  /-- the step timer reaches the step period in MOVING (R123) -/
  | stepEvent (zone : Byte)
  /-- the step timer reaches the step period in relocate phase STEPPING (R139) -/
  | relocateStepEvent (zone : Byte)
  /-- the stall timer reaches the stall limit (R130) -/
  | stallTimerExpiry
  /-- the STEP pulse ends (R121) -/
  | stepPulseEnd
  /-- the stop-bit sample completes a character; `parity` and `stop` are the sampled bits, true for recessive (R15) -/
  | characterReceived (data : Byte) (parity stop : Bool)
  /-- the line returns to recessive in LOW (R18) -/
  | lineReturnsRecessive
  /-- a transmitted bit is sampled unequal to the level sent (R24) -/
  | readbackMismatch
  /-- the DIR set-up time has run and the STEP pulse begins (R121) -/
  | stepPulseStart (zone : Byte)
deriving DecidableEq, Repr

end Sys2Proof
end

