-- ==== Sys2Proof/WellFormed.lean ====
section
/-! DEFINITION. Which commands can be given at all: an operand that no pin level and no frame of the layout of R181 can
carry makes a command ill-formed. The machine is total; it takes an ill-formed command as an event that does not occur. -/

namespace Sys2Proof

/-- A range a frame can carry: empty, or lo ≤ hi ≤ 254, since 255 marks the empty range (R10). -/
def ZRange.wellFormed : ZRange → Bool
  | .empty => true
  | .run lo hi => lo ≤ hi && hi < 255

/-- The kind bytes of the twelve requests (R182). -/
def requestKinds : List Byte :=
  [0x00, 0x10, 0x11, 0x20, 0x21, 0x22, 0x30, 0x31, 0x3F, 0x40, 0x41, 0x42]

/-- The well-formed commands. The frames of the eight defined kinds meet the content check of R22 as far as it does not
depend on the station's own N and Z. -/
def Instr.wellFormed : Instr → Bool
  | .nop _ => true
  | .configure _ => true
  | .start _ _ => true
  | .move _ => true
  | .stop _ => true
  | .relocate _ _ => true
  | .evict _ => true
  | .clearFault _ => true
  | .resetStation _ _ _ => true
  | .readStatus _ => true
  | .readPeer _ => true
  | .takeEvent _ => true
  | .unknownRequest kind _ => !requestKinds.contains kind
  | .cutTransaction clocks => clocks != 64
  | .powerOnReset => true
  | .powerOnTimeExpiry _ _ => true
  | .pinReset => true
  | .pinResetRelease _ _ => true
  | .activity => true
  | .lineIdle => true
  | .lineBreak => true
  | .presenceFrame _ held occupied _ _ => held.wellFormed && occupied.wellFormed
  | .claimFrame sender addressee _ _ unopposed range _ =>
      range.wellFormed && range != .empty && (unopposed || addressee != sender)
  | .grantFrame sender claimant _ range _ => range.wellFormed && range != .empty && claimant != sender
  | .refuseFrame sender answered _ _ _ => answered != sender
  | .releaseFrame _ range _ => range.wellFormed && range != .empty
  | .joinFrame _ attempt occupied _ => occupied.wellFormed && occupied != .empty && 1 ≤ attempt && attempt ≤ 4
  | .recallFrame sender joiner _ bound _ => bound < 255 && joiner != sender
  | .evictFrame sender target _ => target != sender
  | .undefinedFrame chars _ => 1 ≤ chars.length && chars.length ≤ 6
  | .corruptedFrame _ => true
  | .settleEnd => true
  | .slotBoundary _ => true
  | .unsyncedIdleExpiry => true
  | .ageExpiry _ => true
  | .rearmTimerExpiry => true
  | .listenTimerExpiry _ => true
  | .joinReadingRetry _ => true
  | .presenceTimerExpiry => true
  | .stepEvent _ => true
  | .relocateStepEvent _ => true
  | .stallTimerExpiry => true
  | .stepPulseEnd => true
  | .characterReceived _ _ _ => true
  | .lineReturnsRecessive => true
  | .readbackMismatch => true
  | .stepPulseStart _ => true

end Sys2Proof
end

