-- ==== Sys2Proof/Decode.lean ====
section
/-! DEFINITION. The command that a word spells by the bits of spec/opcode_table.json: no row of the table gives bits
("fields" is empty in each), so no word spells a command. The decoding of the controller port: the command that the bits
of a transaction spell (R144, R145, R182). -/

namespace Sys2Proof

/-- The command spelled by a word of the opcode table's bits: none, for every word, since no row gives bits. -/
def decodeTableWord (_nbits _w : Nat) : Option Instr := none

/-- The command of a full transaction by its kind byte (R147, R182). `zone`, `addr` and `rate` are the levels on the pins
at the release of chip select, for the requests that sample them. -/
def decodeRequest (kind : Byte) (r : Request) (zone : Byte) (addr : Addr) (rate : RateCode) : Instr :=
  match kind.toNat with
  | 0x00 => .nop r
  | 0x10 => .configure r
  | 0x11 => .start r zone
  | 0x20 => .move r
  | 0x21 => .stop r
  | 0x22 => .relocate r zone
  | 0x30 => .evict r
  | 0x31 => .clearFault r
  | 0x3F => .resetStation r addr rate
  | 0x40 => .readStatus r
  | 0x41 => .readPeer r
  | 0x42 => .takeEvent r
  | _ => .unknownRequest kind r

/-- Byte i of the bits of a transaction, most significant bit first (R144). -/
def byteOfBits (bits : List Bool) (i : Nat) : Byte :=
  BitVec.ofNat 8 (((bits.drop (8 * i)).take 8).foldl (fun n b => 2 * n + b.toNat) 0)

/-- The command that the bits on SDI of a transaction spell: 64 are a request, kind byte first, and another number is a
cut or overlong transaction (R144, R145). -/
def decodeTransaction (bits : List Bool) (zone : Byte) (addr : Addr) (rate : RateCode) : Instr :=
  if bits.length = 64 then
    let b := byteOfBits bits
    decodeRequest (b 0)
      { seq := b 1, arg0 := b 2, arg1 := b 3, arg2 := b 4, arg3 := b 5, arg4 := b 6, check := b 7 } zone addr rate
  else .cutTransaction bits.length

end Sys2Proof
end

