-- ==== Sys2Proof/Machine/State.lean ====
section
/-! DEFINITION. The state of the part, block by block, as plain data; the outcomes' reason types; the state after reset. -/

namespace Sys2Proof.Machine

/-- A timer in microseconds. -/
structure Timer where
  running : Bool
  value : Nat
deriving DecidableEq, Repr

/-! ### Line unit -/

/-- The receiver states of R16. -/
inductive RxState where
  | off
  | seek
  | await
  | char
  | gap
  | low
deriving DecidableEq, Repr

/-- The burst record of R17; the running CRC is beside it in LineUnit. -/
structure Burst where
  /-- the characters stored, at most 8 -/
  chars : List Byte
  /-- the characters received, stored or not -/
  count : Nat
  bad : Bool
  own : Bool
  mismatch : Bool
deriving DecidableEq, Repr

/-- The line unit (R28). -/
structure LineUnit where
  rx : RxState
  /-- the interval the receiver times: recessive time in SEEK and GAP, time since the start bit in CHAR and LOW -/
  lineTimer : Timer
  burst : Option Burst
  crc : BitVec 16
  /-- the characters of the transmission in progress that are not yet through -/
  txChars : List Byte
  corrupted : Nat
deriving DecidableEq, Repr

/-- The straps as sampled at the end of the last reset (R14, R151). -/
structure Straps where
  address : Addr
  rate : RateCode
deriving DecidableEq, Repr

/-- The levels of the input pins (R4). -/
structure Pins where
  zone : Byte
deriving DecidableEq, Repr

/-! ### Access unit -/

/-- The bus phases of R29. -/
inductive BusPhase where
  | unsynced
  | receiving
  | transmitting
  | settle
  | slotting
  | quiet
deriving DecidableEq, Repr

/-- The kinds that open an answer window (R40). -/
inductive WindowKind where
  | claim
  | join
  | evict
deriving DecidableEq, Repr

/-- The causes of a window's close (R40). -/
inductive CloseCause where
  | complete
  | cut
  | superseded
deriving DecidableEq, Repr

/-- Which window an answer is bound to: the originator and kind of the frame it answers (R35). -/
structure WindowId where
  originator : Addr
  kind : WindowKind
deriving DecidableEq, Repr

/-- The answer-window record (R40). -/
structure Window where
  isOpen : Bool
  originator : Option Addr
  kind : Option WindowKind
  unheard : List Addr
  cause : Option CloseCause
deriving DecidableEq, Repr

/-- What a queue entry sends: a frame with its fields, or a CLAIM or a PRESENCE whose fields come at handover (R34). -/
inductive Payload where
  | claim
  | presence
  | frame (f : Frame)
deriving DecidableEq, Repr

/-- An entry of the outgoing queue (R35); its age is its place in the list, its class and owner are computed. -/
structure QEntry where
  payload : Payload
  /-- for an answer, the window it answers -/
  answers : Option WindowId
  /-- for a RELEASE, its side -/
  side : Option Side
deriving DecidableEq, Repr

/-- The frame in transmission: the entry and the frame handed over (R33). -/
structure Transmission where
  entry : QEntry
  frame : Frame
deriving DecidableEq, Repr

/-- The access unit (R46). -/
structure AccessUnit where
  phase : BusPhase
  /-- time since the frame end E, or since t0 in UNSYNCED -/
  busTimer : Timer
  base : Option Addr
  slot : Option Nat
  /-- oldest first -/
  queue : List QEntry
  inTx : Option Transmission
  window : Window
  ownWindow : Bool
deriving DecidableEq, Repr

/-! ### Peer directory -/

/-- The states of an entry (R47). -/
inductive PeerState where
  | absent
  | joining
  | present
  | silent
  | evicting
deriving DecidableEq, Repr

/-- A directory entry (R47); the age is in microseconds. -/
structure PeerEntry where
  state : PeerState
  held : ZRange
  occupied : ZRange
  mode : MotionState
  age : Nat
deriving DecidableEq, Repr

/-- The eviction-pending record (R47). -/
structure EvictionPending where
  target : Addr
  returnState : PeerState
  aliveHeard : Bool
deriving DecidableEq, Repr

/-- The peer directory: one entry at every address, the own one unused (R47). -/
structure Directory where
  entries : Vector PeerEntry 16
  eviction : Option EvictionPending
deriving DecidableEq, Repr

/-! ### Reservation unit -/

/-- The phases of a claim record (R67). -/
inductive ClaimPhase where
  | queued
  | waiting
  | concluded
deriving DecidableEq, Repr

/-- The outcomes of a claim (R67). -/
inductive ClaimOutcome where
  | granted
  | unopposed
  | refused
  | noAnswer
  | inconclusive
  | neighbourSilent
  | held
deriving DecidableEq, Repr

/-- The claim record (R67). -/
structure ClaimRecord where
  phase : ClaimPhase
  tag : Option Tag
  side : Option Side
  requested : ZRange
  addressee : Option Addr
  unopposed : Bool
  grant : Option ZRange
  refusal : Option RefuseReason
  refuser : Option Addr
  inconclusive : Bool
  orphaned : Bool
  outcome : Option ClaimOutcome
deriving DecidableEq, Repr

/-- The re-arm state: WAITING when `waiting`, ARMED otherwise (R75). -/
structure Rearm where
  waiting : Bool
  watched : List Addr
  timer : Timer
deriving DecidableEq, Repr

/-- The reservation unit (R67). -/
structure Reservation where
  held : ZRange
  claim : Option ClaimRecord
  tagCounter : Tag
  attempt : Nat
  attemptSide : Option Side
  rearm : Rearm
deriving DecidableEq, Repr

/-! ### Membership unit -/

/-- The membership states of R97. -/
inductive MemberState where
  | dormant
  | listening
  | joining
  | joined
  | detached
  | evicted
deriving DecidableEq, Repr

/-- The phases of a join record (R101). -/
inductive JoinPhase where
  | reading
  | queued
  | waiting
  | concluded
deriving DecidableEq, Repr

/-- The join record (R101). -/
structure JoinRecord where
  phase : JoinPhase
  attempt : Nat
  occupied : ZRange
  expectedLower : Option Addr
  expectedUpper : Option Addr
  lowBound : Option Nat
  highBound : Option Nat
  lowHeard : Bool
  highHeard : Bool
  intrusion : Option Addr
  overlap : Bool
  inconclusive : Bool
deriving DecidableEq, Repr

/-- The record of an eviction this station has ordered; WAITING when `waiting`, QUEUED otherwise (R113, R114). -/
structure EvictRecord where
  target : Addr
  waiting : Bool
  aliveHeard : Bool
deriving DecidableEq, Repr

/-- The record of an eviction that names this station (R115). -/
structure TargetRecord where
  originator : Addr
  sent : Bool
deriving DecidableEq, Repr

/-- The membership unit (R98). -/
structure Membership where
  state : MemberState
  listenTimer : Timer
  join : Option JoinRecord
  presenceTimer : Timer
  presenceDue : Bool
  evict : Option EvictRecord
  target : Option TargetRecord
deriving DecidableEq, Repr

/-! ### Motion engine -/

/-- The claim need: a side and a range of zones (R73). -/
structure Need where
  side : Side
  lo : Nat
  hi : Nat
deriving DecidableEq, Repr

/-- The phases of a relocate (R135). -/
inductive RelocPhase where
  | claiming
  | stepping
deriving DecidableEq, Repr

/-- The relocate record (R135). -/
structure RelocRecord where
  k : Nat
  side : Side
  phase : RelocPhase
  downTried : Bool
  steps : Nat
deriving DecidableEq, Repr

/-- The motion engine (R117). -/
structure Motion where
  state : MotionState
  p : Nat
  known : Bool
  target : Option Nat
  direction : Option Side
  stepTimer : Timer
  stallTimer : Timer
  mismatch : Nat
  reloc : Option RelocRecord
  need : Option Need
  /-- the side of the last need that was not none (R75, R128) -/
  lastNeedSide : Option Side
  /-- the DIR output, true for high, UP -/
  dirUp : Bool
  /-- the STEP output, true for high -/
  stepHigh : Bool
  /-- runs between a change of DIR and the STEP pulse (R121) -/
  setupTimer : Timer
  /-- runs while the STEP pulse is high (R121) -/
  pulseTimer : Timer
deriving DecidableEq, Repr

/-! ### Controller port -/

/-- The reset causes of R177. -/
inductive ResetCause where
  | powerOn
  | pin
  | ordered
deriving DecidableEq, Repr

/-- The fault causes of R165. -/
inductive FaultCause where
  | tracking
  | relocateLimit
  | intrusion
  | evicted
deriving DecidableEq, Repr

/-- The reasons of JOIN_FAILED, CLAIM_FAILED and EVICT_FAILED (R184). -/
inductive EventReason where
  | refused (r : RefuseReason)
  | noAnswer
  | inconclusive
  | neighbourSilent
deriving DecidableEq, Repr

/-- The reasons of MOVE_ENDED and RELOCATE_ENDED (R184). -/
inductive EndReason where
  | arrived
  | stopped
  | blocked
  | fault
deriving DecidableEq, Repr

/-- The event records of R160. -/
inductive Event where
  | resetDone (cause : ResetCause)
  | joinDone
  | joinFailed (reason : EventReason) (station : Option Addr)
  | moveEnded (reason : EndReason) (position : Option Nat)
  | relocateDone (position zone : Nat)
  | relocateEnded (reason : EndReason) (zone : Nat)
  | claimFailed (reason : EventReason) (station : Option Addr) (zone : Nat)
  | peerJoined (station : Addr)
  | peerSilent (station : Addr)
  | peerBack (station : Addr)
  | peerEvicted (station : Addr)
  | evictDone (station : Addr)
  | evictFailed (reason : EventReason) (station : Addr)
  | conflict (station : Addr) (zone : Nat)
  | fault (cause : FaultCause)
  | overflow
deriving DecidableEq, Repr

/-- The statuses of R182. -/
inductive Status where
  | done
  | busy
  | state
  | range
  | unknown
  | check
  | config
deriving DecidableEq, Repr

/-- The five data bytes of a response (R144). -/
structure Data where
  d0 : Byte
  d1 : Byte
  d2 : Byte
  d3 : Byte
  d4 : Byte
deriving DecidableEq, Repr

/-- A response; its check byte is computed (R146). -/
structure Response where
  seq : Byte
  status : Status
  data : Data
deriving DecidableEq, Repr

/-- The controller port (R148, R149, R160). -/
structure Port where
  cfg : Config
  response : Response
  /-- oldest first -/
  events : List Event
  /-- the bits SDO carried in the last transaction, first bit first -/
  shiftedOut : List Bool
deriving DecidableEq, Repr

/-! ### Fault and reset unit -/

/-- What holds the part in reset (R174, R175). -/
inductive ResetPhase where
  | running
  | powerOn (pinHeld timeRun : Bool)
  | pin
deriving DecidableEq, Repr

/-- The fault and reset unit (R165, R177). -/
structure FaultUnit where
  cause : Option FaultCause
  further : Bool
  intruders : List Addr
  resetCause : ResetCause
  phase : ResetPhase
  powerOnTimer : Timer
deriving DecidableEq, Repr

/-! ### The whole part -/

/-- The state of one part and the queue of the commands waiting for it, first in, first out. -/
structure State where
  pending : List Instr
  pins : Pins
  straps : Straps
  line : LineUnit
  access : AccessUnit
  dir : Directory
  resv : Reservation
  memb : Membership
  motion : Motion
  port : Port
  fault : FaultUnit
deriving DecidableEq, Repr

/-- Why a step can end in a fault: never. No rule stops the part; every "fault" of the manual is a value of the fault
latch (R165), after which the part goes on. Safe: nothing is raised. -/
inductive Fault where
deriving DecidableEq, Repr

/-- Why a step can be refused. -/
inductive Refusal where
  /-- Raised by exec for a command without a meaning, by its mnemonic; no command of this model is left so. Safe. -/
  | notModelled (mnemonic : String)
deriving DecidableEq, Repr

/-! ### One replacement per block -/

def State.setPending (s : State) (x : List Instr) : State := { s with pending := x }
def State.setPins (s : State) (x : Pins) : State := { s with pins := x }
def State.setStraps (s : State) (x : Straps) : State := { s with straps := x }
def State.setLine (s : State) (x : LineUnit) : State := { s with line := x }
def State.setAccess (s : State) (x : AccessUnit) : State := { s with access := x }
def State.setDir (s : State) (x : Directory) : State := { s with dir := x }
def State.setResv (s : State) (x : Reservation) : State := { s with resv := x }
def State.setMemb (s : State) (x : Membership) : State := { s with memb := x }
def State.setMotion (s : State) (x : Motion) : State := { s with motion := x }
def State.setPort (s : State) (x : Port) : State := { s with port := x }
def State.setFault (s : State) (x : FaultUnit) : State := { s with fault := x }

/-! ### Reset values -/

/-- The line unit after any reset (R28). -/
def lineReset : LineUnit :=
  { rx := .off, lineTimer := ⟨false, 0⟩, burst := none, crc := 0xFFFF#16, txChars := [], corrupted := 0 }

/-- The window record after any reset (R46). -/
def windowReset : Window :=
  { isOpen := false, originator := none, kind := none, unheard := [], cause := none }

/-- The access unit after any reset (R46). -/
def accessReset : AccessUnit :=
  { phase := .unsynced, busTimer := ⟨false, 0⟩, base := none, slot := none, queue := [], inTx := none,
    window := windowReset, ownWindow := false }

/-- A directory entry after any reset (R49). -/
def entryReset : PeerEntry :=
  { state := .absent, held := .empty, occupied := .empty, mode := .unplaced, age := 0 }

/-- The directory after any reset (R49). -/
def dirReset : Directory := { entries := Vector.replicate 16 entryReset, eviction := none }

/-- The reservation unit after any reset (R67). -/
def resvReset : Reservation :=
  { held := .empty, claim := none, tagCounter := 15, attempt := 1, attemptSide := none,
    rearm := { waiting := false, watched := [], timer := ⟨false, 0⟩ } }

/-- The membership unit after any reset (R98). -/
def membReset : Membership :=
  { state := .dormant, listenTimer := ⟨false, 0⟩, join := none, presenceTimer := ⟨false, 0⟩, presenceDue := false,
    evict := none, target := none }

/-- The motion engine after any reset (R117). -/
def motionReset : Motion :=
  { state := .unplaced, p := 0, known := false, target := none, direction := none, stepTimer := ⟨false, 0⟩,
    stallTimer := ⟨false, 0⟩, mismatch := 0, reloc := none, need := none, lastNeedSide := none, dirUp := false,
    stepHigh := false, setupTimer := ⟨false, 0⟩, pulseTimer := ⟨false, 0⟩ }

/-- The pending response after a power-on or pin reset: sequence 0, DONE, the NOP data of the state the reset leaves:
one event held, no fault, DORMANT (R148). -/
def responseReset : Response :=
  { seq := 0x00#8, status := .done, data := { d0 := 0x01#8, d1 := 0x00#8, d2 := 0x00#8, d3 := 0x00#8, d4 := 0x00#8 } }

/-- The part right after a power-on reset (R28, R46, R49, R67, R98, R117, R148, R149, R162, R165, R174, R177). The straps
and the ZONE lines are as R185 gives them for unconnected pins (DESIGN CHOICE, logs 5 and 6). -/
def State.reset : State :=
  { pending := []
    pins := { zone := 0xFF#8 }
    straps := { address := 15, rate := 3 }
    line := lineReset
    access := accessReset
    dir := dirReset
    resv := resvReset
    memb := membReset
    motion := motionReset
    port := { cfg := Config.default, response := responseReset, events := [.resetDone .powerOn], shiftedOut := [] }
    fault := { cause := none, further := false, intruders := [], resetCause := .powerOn, phase := .running,
               powerOnTimer := ⟨false, 0⟩ } }

end Sys2Proof.Machine
end

