-- ==== Sys2Proof/Machine/Ranges.lean ====
section
/-! DEFINITION. The relations and operations on ranges of zones (R8, R9). -/

namespace Sys2Proof

/-- Zone z is in the range (R8). -/
def ZRange.has (r : ZRange) (z : Nat) : Bool :=
  match r with
  | .empty => false
  | .run lo hi => lo ≤ z && z ≤ hi

/-- The number of zones (R8). -/
def ZRange.length : ZRange → Nat
  | .empty => 0
  | .run lo hi => hi + 1 - lo

/-- Q overlaps R (R8). -/
def ZRange.overlaps : ZRange → ZRange → Bool
  | .run qlo qhi, .run rlo rhi => qlo ≤ rhi && rlo ≤ qhi
  | _, _ => false

/-- Q lies inside R (R8). -/
def ZRange.inside : ZRange → ZRange → Bool
  | .empty, _ => true
  | .run qlo qhi, .run rlo rhi => rlo ≤ qlo && qhi ≤ rhi
  | .run _ _, .empty => false

/-- Q lies below R (R8). -/
def ZRange.below : ZRange → ZRange → Bool
  | .run _ qhi, .run rlo _ => qhi < rlo
  | _, _ => false

/-- Q lies above R (R8). -/
def ZRange.above : ZRange → ZRange → Bool
  | .run qlo _, .run _ rhi => rhi < qlo
  | _, _ => false

/-- Q is adjacent to R on the given side of R (R8). -/
def ZRange.adjacent (q r : ZRange) (side : Side) : Bool :=
  match q, r, side with
  | .run qlo _, .run _ rhi, .up => qlo == rhi + 1
  | .run _ qhi, .run rlo _, .down => qhi + 1 == rlo
  | _, _, _ => false

/-- The span of Q and R (R9). -/
def ZRange.span : ZRange → ZRange → ZRange
  | .empty, r => r
  | q, .empty => q
  | .run qlo qhi, .run rlo rhi => .run (min qlo rlo) (max qhi rhi)

/-- Removing R from Q at an edge; a removal from the middle changes nothing (R9). -/
def ZRange.remove (q r : ZRange) : ZRange :=
  match q, r with
  | .empty, _ => .empty
  | .run qlo qhi, .empty => .run qlo qhi
  | .run qlo qhi, .run rlo rhi =>
    if rhi < qlo || qhi < rlo then .run qlo qhi
    else if rlo ≤ qlo && qhi ≤ rhi then .empty
    else if rlo ≤ qlo then .run (rhi + 1) qhi
    else if qhi ≤ rhi then .run qlo (rlo - 1)
    else .run qlo qhi

/-- The intersection of Q and R (R9). -/
def ZRange.inter (q r : ZRange) : ZRange :=
  match q, r with
  | .run qlo qhi, .run rlo rhi =>
    if max qlo rlo ≤ min qhi rhi then .run (max qlo rlo) (min qhi rhi) else .empty
  | _, _ => .empty

/-- The zones of a range in order from a named end: DOWN for the LOW end, UP for the HIGH end (R9). -/
def ZRange.zonesFrom (r : ZRange) (fromEnd : Side) : List Nat :=
  match r, fromEnd with
  | .empty, _ => []
  | .run lo hi, .down => List.range' lo (hi + 1 - lo)
  | .run lo hi, .up => (List.range' lo (hi + 1 - lo)).reverse

/-- The n zones of a range next to a named end; the empty range when n is 0. -/
def ZRange.take (r : ZRange) (fromEnd : Side) (n : Nat) : ZRange :=
  match r, fromEnd, n with
  | .empty, _, _ => .empty
  | _, _, 0 => .empty
  | .run lo _, .down, k + 1 => .run lo (lo + k)
  | .run _ hi, .up, k + 1 => .run (hi - k) hi

/-- The leading part of a range from a named end against a test on zones (R9). -/
def ZRange.leadingPart (r : ZRange) (fromEnd : Side) (test : Nat → Bool) : ZRange :=
  r.take fromEnd ((r.zonesFrom fromEnd).takeWhile test).length

/-- The range as two zone numbers, lo and hi, for a non-empty range. -/
def ZRange.lo? : ZRange → Option Nat
  | .empty => none
  | .run lo _ => some lo

def ZRange.hi? : ZRange → Option Nat
  | .empty => none
  | .run _ hi => some hi

/-- The range is one of rail zones below Z, or empty (R8, R11). -/
def ZRange.ok (z : Nat) : ZRange → Bool
  | .empty => true
  | .run lo hi => lo ≤ hi && hi < z

/-- The end of a range, or of what adjoins H, that is nearest H for a claim on a side: LOW for UP, HIGH for DOWN (R78). -/
def nearEnd : Side → Side
  | .up => .down
  | .down => .up

end Sys2Proof
end

