-- ==== Sys2Proof/Machine/Operands.lean ====
section
/-! DEFINITION. The layouts and code tables of the Formats chapter: bus characters and frames with their CRC (R15, R19,
R20, R181), request arguments (R182), response data (R183), event records (R184), and the readings of them back. -/

namespace Sys2Proof

/-! ### Small pieces -/

/-- Two nibbles as a byte, the high one first. -/
def nibbles (high low : BitVec 4) : Byte := high ++ low

/-- The high nibble of a byte. -/
def highNibble (b : Byte) : BitVec 4 := b.extractLsb' 4 4

/-- The low nibble of a byte. -/
def lowNibble (b : Byte) : BitVec 4 := b.extractLsb' 0 4

/-- A number as a nibble. -/
def nib (n : Nat) : BitVec 4 := BitVec.ofNat 4 n

/-- A nibble as a station address or a tag. -/
def nibFin (b : BitVec 4) : Fin 16 := Fin.ofNat 16 b.toNat

/-- A number as a byte. -/
def byte (n : Nat) : Byte := BitVec.ofNat 8 n

/-! ### The bus character (R15) -/

/-- The even parity bit of a character: set when the data bits hold an odd number of ones (R15). -/
def parityBit (data : Byte) : Bool :=
  ((List.range 8).map data.getLsbD).foldl (· != ·) false

/-- The eleven levels of a character on the line, true for recessive: start bit, data bits least significant first,
parity bit, stop bit (R15). -/
def characterBits (data : Byte) : List Bool :=
  [false] ++ (List.range 8).map data.getLsbD ++ [parityBit data, true]

/-! ### The CRC (R20) -/

/-- One bit fed into the CRC register (R20). -/
def crcBit (crc : BitVec 16) (bit : Bool) : BitVec 16 :=
  if crc.msb != bit then (crc <<< 1) ^^^ 0x1021#16 else crc <<< 1

/-- One character fed into the CRC register, most significant data bit first (R20). -/
def crcByte (crc : BitVec 16) (data : Byte) : BitVec 16 :=
  [7, 6, 5, 4, 3, 2, 1, 0].foldl (fun c i => crcBit c (data.getLsbD i)) crc

/-- The register after a list of characters, from FFFFh (R20). -/
def crcOf (chars : List Byte) : BitVec 16 := chars.foldl crcByte 0xFFFF#16

/-- Characters followed by their CRC, high byte first (R20). -/
def withCrc (chars : List Byte) : List Byte :=
  chars ++ [(crcOf chars).extractLsb' 8 8, (crcOf chars).extractLsb' 0 8]

/-! ### Ranges, modes and reasons in frames (R10, R181) -/

/-- The pair of bytes that carries a range: lo (R10). -/
def ZRange.loByte : ZRange → Byte
  | .empty => 0xFF#8
  | .run lo _ => byte lo

/-- The pair of bytes that carries a range: hi (R10). -/
def ZRange.hiByte : ZRange → Byte
  | .empty => 0xFF#8
  | .run _ hi => byte hi

/-- The range a pair of bytes carries, or none when the field is ill-formed for Z (R10). -/
def rangeOfBytes (z : Nat) (lo hi : Byte) : Option ZRange :=
  if lo = 0xFF#8 ∧ hi = 0xFF#8 then some .empty
  else if lo.toNat ≤ hi.toNat ∧ hi.toNat < z then some (.run lo.toNat hi.toNat)
  else none

/-- The mode code of a motion state (R181). -/
def modeCode : MotionState → Nat
  | .idle => 0
  | .moving => 1
  | .stalled => 2
  | .relocating => 3
  | .unplaced => 4
  | .halted => 5

/-- The motion state of a mode code; none above 5 (R181, R22). -/
def modeOfCode : Nat → Option MotionState
  | 0 => some .idle
  | 1 => some .moving
  | 2 => some .stalled
  | 3 => some .relocating
  | 4 => some .unplaced
  | 5 => some .halted
  | _ => none

/-- The code of a refusal reason (R181). -/
def reasonCode : RefuseReason → Nat
  | .held => 1
  | .pending => 2
  | .adjacency => 3
  | .stranger => 4
  | .notJoined => 5
  | .occupied => 6
  | .overlap => 7
  | .intrusion => 8
  | .alive => 9

/-- The refusal reason of a code; none outside 1 to 9 (R181, R22). -/
def reasonOfCode : Nat → Option RefuseReason
  | 1 => some .held
  | 2 => some .pending
  | 3 => some .adjacency
  | 4 => some .stranger
  | 5 => some .notJoined
  | 6 => some .occupied
  | 7 => some .overlap
  | 8 => some .intrusion
  | 9 => some .alive
  | _ => none

/-! ### Frames (R19, R181) -/

/-- The kind code of a frame (R19). -/
def Frame.code : Frame → Nat
  | .presence _ _ _ => 1
  | .claim _ _ _ _ _ => 2
  | .grant _ _ _ => 3
  | .refuse _ _ _ => 4
  | .release _ => 5
  | .join _ _ => 6
  | .recall _ _ _ => 7
  | .evict _ => 8

/-- The length of a frame of a kind code in characters, character 0 and the CRC included; none for the undefined codes
(R19). -/
def kindLength : Nat → Option Nat
  | 1 => some 8
  | 2 => some 7
  | 3 => some 6
  | 4 => some 5
  | 5 => some 5
  | 6 => some 6
  | 7 => some 5
  | 8 => some 4
  | _ => none

/-- The CLAIM flags character: bit 0 the side, bit 1 the unopposed flag (R181). -/
def claimFlags (side : Side) (unopposed : Bool) : Byte :=
  byte ((if side = .up then 1 else 0) + (if unopposed then 2 else 0))

/-- The characters of a frame between character 0 and the CRC; unused bits are 0 (R181). -/
def Frame.body : Frame → List Byte
  | .presence held occupied mode =>
      [held.loByte, held.hiByte, occupied.loByte, occupied.hiByte, byte (modeCode mode)]
  | .claim addressee tag side unopposed range =>
      [nibbles (nib (if unopposed then 0 else addressee.val)) (nib tag.val), claimFlags side unopposed,
        range.loByte, range.hiByte]
  | .grant claimant tag range =>
      [nibbles (nib claimant.val) (nib tag.val), range.loByte, range.hiByte]
  | .refuse answered tag reason => [nibbles (nib answered.val) (nib tag.val), byte (reasonCode reason)]
  | .release range => [range.loByte, range.hiByte]
  | .join attempt occupied => [byte attempt, occupied.loByte, occupied.hiByte]
  | .recall joiner side bound =>
      [nibbles (nib joiner.val) (nib (if side = .up then 1 else 0)), byte bound]
  | .evict target => [nibbles (nib target.val) 0#4]

/-- All the characters of a frame from a sender, the CRC included (R181). -/
def Frame.chars (sender : Addr) (f : Frame) : List Byte :=
  withCrc (nibbles (nib f.code) (nib sender.val) :: f.body)

/-- The frame that the body characters of a kind code carry, after the content check of R22 with this station's N and Z;
none for kind UNDEFINED. Bits the layout leaves unused are not examined, and the addressee of an unopposed CLAIM is read
as 0 (R181). -/
def parseFrame (n z : Nat) (sender : Addr) (code : Nat) (body : List Byte) : Option Frame :=
  match code, body with
  | 1, [hlo, hhi, olo, ohi, m] =>
    match rangeOfBytes z hlo hhi, rangeOfBytes z olo ohi, modeOfCode (lowNibble m).toNat with
    | some h, some o, some mode => some (.presence h o mode)
    | _, _, _ => none
  | 2, [at', fl, lo, hi] =>
    match rangeOfBytes z lo hi with
    | some (.run a b) =>
      let addressee := nibFin (highNibble at')
      let side := if fl.getLsbD 0 then Side.up else Side.down
      let unopposed := fl.getLsbD 1
      if unopposed then some (.claim 0 (nibFin (lowNibble at')) side true (.run a b))
      else if addressee.val < n ∧ addressee ≠ sender then
        some (.claim addressee (nibFin (lowNibble at')) side false (.run a b))
      else none
    | _ => none
  | 3, [ct, lo, hi] =>
    match rangeOfBytes z lo hi with
    | some (.run a b) =>
      let claimant := nibFin (highNibble ct)
      if claimant.val < n ∧ claimant ≠ sender then some (.grant claimant (nibFin (lowNibble ct)) (.run a b)) else none
    | _ => none
  | 4, [at', r] =>
    match reasonOfCode r.toNat with
    | some reason =>
      let answered := nibFin (highNibble at')
      if answered.val < n ∧ answered ≠ sender then some (.refuse answered (nibFin (lowNibble at')) reason) else none
    | none => none
  | 5, [lo, hi] =>
    match rangeOfBytes z lo hi with
    | some (.run a b) => some (.release (.run a b))
    | _ => none
  | 6, [a, lo, hi] =>
    match rangeOfBytes z lo hi with
    | some (.run b c) => if 1 ≤ a.toNat ∧ a.toNat ≤ 4 then some (.join a.toNat (.run b c)) else none
    | _ => none
  | 7, [js, b] =>
    let joiner := nibFin (highNibble js)
    if (lowNibble js).toNat ≤ 1 ∧ b.toNat < z ∧ joiner.val < n ∧ joiner ≠ sender then
      some (.recall joiner (if (lowNibble js).toNat = 1 then .up else .down) b.toNat)
    else none
  | 8, [t] =>
    let target := nibFin (highNibble t)
    if target.val < n ∧ target ≠ sender then some (.evict target) else none
  | _, _ => none

/-! ### Requests (R146, R182) -/

/-- The check of a request holds: its eight bytes sum to a multiple of 256 (R146). -/
def checkHolds (kind : Byte) (r : Request) : Bool :=
  kind + r.seq + r.arg0 + r.arg1 + r.arg2 + r.arg3 + r.arg4 + r.check == 0x00#8

/-- A request with the check byte of R146. -/
def Request.checked (kind seq a0 a1 a2 a3 a4 : Byte) : Request :=
  { seq := seq, arg0 := a0, arg1 := a1, arg2 := a2, arg3 := a3, arg4 := a4,
    check := -(kind + seq + a0 + a1 + a2 + a3 + a4) }

/-- CONFIGURE: the 16-bit value of arguments 1 and 2 (R182). -/
def Request.value16 (r : Request) : Nat := (r.arg1 ++ r.arg2 : BitVec 16).toNat

/-- MOVE: the 20-bit target (R182). -/
def Request.target20 (r : Request) : Nat := (lowNibble r.arg0 ++ r.arg1 ++ r.arg2 : BitVec 20).toNat

end Sys2Proof

namespace Sys2Proof.Machine

/-! ### Responses (R146, R182, R183) -/

/-- The status byte (R182). -/
def statusByte : Status → Byte
  | .done => 0x00#8
  | .busy => 0x01#8
  | .state => 0x02#8
  | .range => 0x03#8
  | .unknown => 0x04#8
  | .check => 0x05#8
  | .config => 0x06#8

/-- Data of five zero bytes. -/
def Data.zero : Data := ⟨0x00#8, 0x00#8, 0x00#8, 0x00#8, 0x00#8⟩

/-- The check byte of a response (R146). -/
def Response.check (r : Response) : Byte :=
  -(r.seq + statusByte r.status + r.data.d0 + r.data.d1 + r.data.d2 + r.data.d3 + r.data.d4)

/-- The eight bytes of a response (R144). -/
def Response.bytes (r : Response) : List Byte :=
  [r.seq, statusByte r.status, r.data.d0, r.data.d1, r.data.d2, r.data.d3, r.data.d4, r.check]

/-- The bits of a byte, most significant first (R144). -/
def bitsMsbFirst (b : Byte) : List Bool := [7, 6, 5, 4, 3, 2, 1, 0].map b.getLsbD

/-- What SDO carries in a transaction of some clock periods: the response, and ones beyond its 64 bits (R144, R145). -/
def Response.shifted (r : Response) (clocks : Nat) : List Bool :=
  ((r.bytes.flatMap bitsMsbFirst) ++ List.replicate (clocks - 64) true).take clocks

/-- The membership code (R183). -/
def memberCode : MemberState → Nat
  | .dormant => 0
  | .listening => 1
  | .joining => 2
  | .joined => 3
  | .detached => 4
  | .evicted => 5

/-- The entry state code (R183). -/
def peerCode : PeerState → Nat
  | .absent => 0
  | .joining => 1
  | .present => 2
  | .silent => 3
  | .evicting => 4

/-- The claim phase code (R183). -/
def claimPhaseCode : Option ClaimRecord → Nat
  | none => 0
  | some r =>
    match r.phase with
    | .queued => 1
    | .waiting => 2
    | .concluded => 3

/-- The fault cause code (R183). -/
def causeCode : FaultCause → Nat
  | .tracking => 1
  | .relocateLimit => 2
  | .intrusion => 3
  | .evicted => 4

/-- The fault cause code of the latch, 0 for none (R183). -/
def latchCode : Option FaultCause → Nat
  | none => 0
  | some c => causeCode c

/-- The reset cause code (R183). -/
def resetCauseCode : ResetCause → Nat
  | .powerOn => 1
  | .pin => 2
  | .ordered => 3

/-- A flag as a one-bit vector. -/
def bit1 (b : Bool) : BitVec 1 := BitVec.ofBool b

/-- The three bytes of the position group (R183): flag, three mode bits, twenty position bits. -/
def positionGroup (known : Bool) (mode : BitVec 3) (p : Nat) : Byte × Byte × Byte :=
  let pos := BitVec.ofNat 20 p
  ((bit1 known ++ mode ++ pos.extractLsb' 16 4 : BitVec 8), pos.extractLsb' 8 8, pos.extractLsb' 0 8)

/-! ### Event records (R184) -/

/-- The event reason code (R184). -/
def eventReasonCode : EventReason → Nat
  | .refused r => reasonCode r
  | .noAnswer => 10
  | .inconclusive => 11
  | .neighbourSilent => 12

/-- The ending reason code (R184). -/
def endReasonCode : EndReason → Nat
  | .arrived => 1
  | .stopped => 2
  | .blocked => 3
  | .fault => 4

/-- A station, or 255 when absent (R184). -/
def stationByte : Option Addr → Byte
  | none => 0xFF#8
  | some a => byte a.val

/-- A position of an event as its twenty bits, all set when absent (R184). -/
def positionBits : Option Nat → BitVec 20
  | none => 0xFFFFF#20
  | some p => BitVec.ofNat 20 p

/-- The data bytes of an event record with the number of records left (R184). -/
def Event.data (e : Event) (left : Nat) : Data :=
  let d (code : Nat) (low : BitVec 4) (d2 d3 d4 : Byte) : Data := ⟨byte code, nibbles (nib left) low, d2, d3, d4⟩
  match e with
  | .resetDone c => d 1 (nib (resetCauseCode c)) 0 0 0
  | .joinDone => d 2 0 0 0 0
  | .joinFailed r s => d 3 (nib (eventReasonCode r)) (stationByte s) 0 0
  | .moveEnded r p =>
      let pos := positionBits p
      d 4 (pos.extractLsb' 16 4) (pos.extractLsb' 8 8) (pos.extractLsb' 0 8) (byte (endReasonCode r))
  | .relocateDone p z =>
      let pos := BitVec.ofNat 20 p
      d 5 (pos.extractLsb' 16 4) (pos.extractLsb' 8 8) (pos.extractLsb' 0 8) (byte z)
  | .relocateEnded r z => d 6 (nib (endReasonCode r)) 0 (byte z) 0
  | .claimFailed r s z => d 7 (nib (eventReasonCode r)) (stationByte s) (byte z) 0
  | .peerJoined a => d 8 0 (byte a.val) 0 0
  | .peerSilent a => d 9 0 (byte a.val) 0 0
  | .peerBack a => d 10 0 (byte a.val) 0 0
  | .peerEvicted a => d 11 0 (byte a.val) 0 0
  | .evictDone a => d 12 0 (byte a.val) 0 0
  | .evictFailed r a => d 13 (nib (eventReasonCode r)) (byte a.val) 0 0
  | .conflict a z => d 14 0 (byte a.val) (byte z) 0
  | .fault c => d 15 (nib (causeCode c)) 0 0 0
  | .overflow => d 16 0 0 0 0

/-- The data bytes of kind NONE, with the number of records left (R163, R184). -/
def noneData (left : Nat) : Data := ⟨0x00#8, nibbles (nib left) 0#4, 0x00#8, 0x00#8, 0x00#8⟩

end Sys2Proof.Machine
end

