-- ==== Sys2Proof/Machine/Flags.lean ====
section
/-! DEFINITION. The output lines of the part, computed from the state (R13, R164, R172, R173). -/

namespace Sys2Proof.Machine

/-- A power-on or pin reset is holding the part (R174, R175). -/
def State.inReset (s : State) : Bool := s.fault.phase != .running

/-- A fault is latched (R165). -/
def State.faulted (s : State) : Bool := s.fault.cause.isSome

/-- DRIVE_EN, true for asserted (R172). -/
def State.driveEn (s : State) : Bool := !s.inReset && s.memb.state == .joined && !s.faulted

/-- FAULT, true for asserted (R173). -/
def State.faultLine (s : State) : Bool := !s.inReset && s.faulted

/-- The attention output, true for asserted (R164). -/
def State.attention (s : State) : Bool := !s.inReset && (!s.port.events.isEmpty || s.faulted)

/-- The bit times that have passed of the character under way. The characters of a frame follow one another with no idle
time, so after a stop bit the next start bit is under way (R14, R15, R23). -/
def State.bitsPassed (s : State) : Nat := s.line.lineTimer.value / bitTime s.straps.rate

/-- The levels of the bit times under way and to come of the transmission in progress, true for recessive (R13, R15). -/
def State.driverLevels (s : State) : List Bool := (s.line.txChars.flatMap characterBits).drop s.bitsPassed

/-- The level of the bit time under way, true for recessive, for which the driver is released: it is released in the bit
times of value 1, when a character's time has run, between transmissions and in reset (R13). -/
def State.driverLevel (s : State) : Bool :=
  match s.line.txChars with
  | [] => true
  | c :: _ => (characterBits c).getD s.bitsPassed true

/-- The bus driver takes the pair dominant (R13). -/
def State.driving (s : State) : Bool := !s.driverLevel

end Sys2Proof.Machine
end

