-- ==== Sys2Proof/Machine/Ops.lean ====
section
/-! DEFINITION. The shared operations: time, zone readings, the occupied range, the event queue, the queries of the peer
directory, and the outgoing queue. -/

namespace Sys2Proof.Machine

/-! ### Time (log 2) -/

/-- A timer running from 0. -/
def Timer.start : Timer := ⟨true, 0⟩

/-- A timer stopped at 0. -/
def Timer.stopped : Timer := ⟨false, 0⟩

/-- A timer after d microseconds. -/
def Timer.advance (d : Nat) (t : Timer) : Timer := if t.running then { t with value := t.value + d } else t

/-- What is left of a timer until a limit; 0 when it is past it. -/
def Timer.remaining (limit : Nat) (t : Timer) : Nat := limit - t.value

/-- One character time C in microseconds (R14). -/
def State.c (s : State) : Nat := charTime s.straps.rate

/-- The presence interval P in microseconds (R149). -/
def State.presenceInterval (s : State) : Nat := s.port.cfg.p * tenMs

/-- The stall limit in microseconds (R118). -/
def State.stallTime (s : State) : Nat := s.port.cfg.stallLimit * tenMs

/-- The address is of another station that the directory has an entry in use for (R47). -/
def State.isPeer (s : State) (a : Addr) : Bool := a != s.straps.address && decide (a.val < s.port.cfg.n)

/-- The directory is active: its ages run and frames update it (R49). -/
def State.dirActive (s : State) : Bool :=
  match s.memb.state with
  | .listening | .joining | .joined | .detached => true
  | .dormant | .evicted => false

/-- Every entry of the directory changed by a function of its address. -/
def mapEntries (f : Addr → PeerEntry → PeerEntry) (v : Vector PeerEntry 16) : Vector PeerEntry 16 :=
  Vector.ofFn fun a => f a v[a]

/-- d microseconds pass: every running timer advances, and the ages of the entries in use (R49, R59). -/
def State.advance (s : State) (d : Nat) : State :=
  { s with
    line := { s.line with lineTimer := s.line.lineTimer.advance d }
    access := { s.access with busTimer := s.access.busTimer.advance d }
    dir := if s.dirActive then
        { s.dir with entries := mapEntries (fun a e => if s.isPeer a then { e with age := e.age + d } else e) s.dir.entries }
      else s.dir
    resv := { s.resv with rearm := { s.resv.rearm with timer := s.resv.rearm.timer.advance d } }
    memb := { s.memb with listenTimer := s.memb.listenTimer.advance d, presenceTimer := s.memb.presenceTimer.advance d }
    motion := { s.motion with
      stepTimer := s.motion.stepTimer.advance d, stallTimer := s.motion.stallTimer.advance d,
      setupTimer := s.motion.setupTimer.advance d, pulseTimer := s.motion.pulseTimer.advance d }
    fault := { s.fault with powerOnTimer := s.fault.powerOnTimer.advance d } }

/-- One microsecond passes with no command waiting (log 3). -/
def State.tick (s : State) : State := s.advance 1

/-! ### Zone readings and the occupied range -/

/-- The ZONE lines carry a code (R4, log 5). -/
def State.withZone (s : State) (zone : Byte) : State := s.setPins { s.pins with zone := zone }

/-- A zone reading: the zone, or none for UNREADABLE (R4). -/
def State.reading (s : State) : Option Nat :=
  if s.pins.zone.toNat < s.port.cfg.z then some s.pins.zone.toNat else none

/-- The largest legal position (R2). -/
def maxPosition (c : Config) : Nat := (c.z - c.w) * c.s

/-- The occupied range of a legal position; none outside the legal position range (R2, R5). -/
def occupiedAt (c : Config) (p : Nat) : Option ZRange :=
  if p ≤ maxPosition c then some (.run (p / c.s) ((p + c.w * c.s - 1) / c.s)) else none

/-- The occupied range of the station: empty when the position is not known (R5). -/
def State.occupied (s : State) : ZRange :=
  if s.motion.known then (occupiedAt s.port.cfg s.motion.p).getD .empty else .empty

/-- The conservative occupied range for a reading k (R6). -/
def conservativeRange (c : Config) (k : Nat) : ZRange := .run k (min (k + c.w) (c.z - 1))

/-- The relocate range of a direction from starting zone k; none where it does not exist (R7). -/
def relocateRange (c : Config) (k : Nat) (side : Side) : Option ZRange :=
  match side with
  | .down => if 1 ≤ k then some (.run (k - 1) (min (k + c.w) (c.z - 1))) else none
  | .up => if k + c.w + 1 ≤ c.z - 1 then some (.run k (k + c.w + 1)) else none

/-- Occupied range of a candidate position lies inside a range; an illegal candidate fails the test (R2). -/
def fitsIn (c : Config) (candidate : Option Nat) (h : ZRange) : Bool :=
  match candidate with
  | none => false
  | some p =>
    match occupiedAt c p with
    | none => false
    | some o => o.inside h

/-! ### The event queue -/

/-- An event record placed by the number of records held (R161). -/
def placeEvent (q : List Event) (e : Event) : List Event :=
  if q.length + 1 < eventQueueSize then q ++ [e]
  else if q.length + 1 = eventQueueSize then q ++ [.overflow]
  else q

/-- A block offers an event to the event queue (R161). -/
def State.queueEvent (s : State) (e : Event) : State :=
  s.setPort { s.port with events := placeEvent s.port.events e }

/-! ### Directory queries (R48, R64, R65) -/

/-- The extent of an entry (R48). -/
def PeerEntry.extent (e : PeerEntry) : ZRange :=
  match e.state with
  | .absent => .empty
  | .joining => e.occupied
  | .present => e.held
  | .silent => e.held
  | .evicting => e.held

/-- The directory entry at an address. -/
def State.entry (s : State) (a : Addr) : PeerEntry := s.dir.entries[a]

/-- The extent recorded for an address. -/
def State.extent (s : State) (a : Addr) : ZRange := (s.entry a).extent

/-- The standing entries whose extent overlaps a range, in rising address (R65). -/
def State.overlapping (s : State) (r : ZRange) : List Addr := allAddrs.filter fun a => (s.extent a).overlaps r

/-- A zone lies in some standing entry's extent (R65). -/
def State.taken (s : State) (z : Nat) : Bool := allAddrs.any fun a => (s.extent a).has z

/-- The lowest address whose extent holds a zone (R83, R87). -/
def State.holder (s : State) (z : Nat) : Option Addr := allAddrs.find? fun a => (s.extent a).has z

/-- The first zone taken within a range, from a named end (R65). -/
def State.firstTaken (s : State) (r : ZRange) (fromEnd : Side) : Option Nat := (r.zonesFrom fromEnd).find? s.taken

/-- The standing entries between Q and R, Q below R, apart from a named address (R65). -/
def State.between (s : State) (q r : ZRange) (apart : Addr) : List Addr :=
  allAddrs.filter fun a => a != apart && (s.extent a).above q && (s.extent a).below r

/-- An extent is strictly nearer than another on a side (R64): by the near edge, then by the other edge. -/
def nearer (side : Side) (x y : ZRange) : Bool :=
  match side, x, y with
  | .down, .run xlo xhi, .run ylo yhi => yhi < xhi || (xhi == yhi && ylo < xlo)
  | .up, .run xlo xhi, .run ylo yhi => xlo < ylo || (xlo == ylo && xhi < yhi)
  | _, _, _ => false

/-- The neighbour of a range on a side; ties go to the lower address (R64). -/
def State.neighbour (s : State) (r : ZRange) (side : Side) : Option Addr :=
  let candidates := allAddrs.filter fun a =>
    match side with
    | .down => (s.extent a).below r
    | .up => (s.extent a).above r
  candidates.foldl (fun best a =>
    match best with
    | none => some a
    | some b => if nearer side (s.extent a) (s.extent b) then some a else some b) none

/-! ### Clipping a recorded held range against H (R52) -/

/-- The part of a range below another; empty when there is none. -/
def partBelow (r h : ZRange) : ZRange :=
  match r, h with
  | .run lo _, .run hlo _ => if lo < hlo then .run lo (hlo - 1) else .empty
  | _, _ => .empty

/-- The part of a range above another; empty when there is none. -/
def partAbove (r h : ZRange) : ZRange :=
  match r, h with
  | .run _ hi, .run _ hhi => if hhi < hi then .run (hhi + 1) hi else .empty
  | _, _ => .empty

/-- The carriage of a recorded occupied range stands above H: its lo is above H.hi (R52). -/
def carriageAbove (occupied h : ZRange) : Bool :=
  match occupied, h with
  | .run olo _, .run _ hhi => hhi < olo
  | _, _ => false

/-- An announced range with the zones of H removed (R52). -/
def clip (h announced occupied : ZRange) : ZRange :=
  if announced.overlaps h then
    match partBelow announced h, partAbove announced h with
    | .empty, above => above
    | below, .empty => below
    | below, above => if carriageAbove occupied h then above else below
  else announced

/-- The lowest of the zones of H that a clip removes from an announced range, if any (R52). -/
def clipRemoved (h announced : ZRange) : Option Nat :=
  match announced.inter h with
  | .empty => none
  | .run lo _ => some lo

/-! ### The outgoing queue (R35 to R38) -/

/-- What becomes of an offer (R37, R38). -/
inductive OfferResult where
  | admitted
  | merged
  | alreadyQueued
  | notQueued
deriving DecidableEq, Repr

/-- The class of an entry, 0 first (R35). -/
def QEntry.cls (e : QEntry) : Nat :=
  match e.payload with
  | .claim => 2
  | .presence => 3
  | .frame f =>
    match f with
    | .grant _ _ _ => 0
    | .refuse _ _ _ => 0
    | .recall _ _ _ => 0
    | .release _ => 1
    | .evict _ => 1
    | .claim _ _ _ _ _ => 2
    | .join _ _ => 2
    | .presence _ _ _ => 3

/-- The units that own entries (R35). -/
inductive Owner where
  | reservation
  | membership
  | access
deriving DecidableEq, Repr

/-- The unit told of an entry's fate (R35). -/
def QEntry.owner (e : QEntry) : Owner :=
  match e.payload with
  | .claim => .reservation
  | .presence => .membership
  | .frame f =>
    match f with
    | .grant _ _ _ => .reservation
    | .refuse _ _ reason =>
      if reason = .overlap then .access
      else match e.answers with
        | some w => if w.kind = .claim then .reservation else .membership
        | none => .membership
    | .recall _ _ _ => .membership
    | .release _ => .reservation
    | .evict _ => .membership
    | .claim _ _ _ _ _ => .reservation
    | .join _ _ => .membership
    | .presence _ _ _ => .membership

/-- The entry is a CLAIM. -/
def QEntry.isClaim (e : QEntry) : Bool := e.payload == .claim

/-- The entry is a JOIN. -/
def QEntry.isJoin (e : QEntry) : Bool :=
  match e.payload with
  | .frame (.join _ _) => true
  | _ => false

/-- The entry is a PRESENCE. -/
def QEntry.isPresence (e : QEntry) : Bool := e.payload == .presence

/-- The entry is an EVICT. -/
def QEntry.isEvict (e : QEntry) : Bool :=
  match e.payload with
  | .frame (.evict _) => true
  | _ => false

/-- The entry is a REFUSE(OVERLAP). -/
def QEntry.isOverlap (e : QEntry) : Bool :=
  match e.payload with
  | .frame (.refuse _ _ .overlap) => true
  | _ => false

/-- The entry is a RELEASE on a side. -/
def QEntry.isReleaseOn (e : QEntry) (side : Side) : Bool :=
  match e.payload with
  | .frame (.release _) => e.side == some side
  | _ => false

/-- A RELEASE entry with its range widened to the span with another (R37). -/
def QEntry.mergeRelease (e : QEntry) (r : ZRange) : QEntry :=
  match e.payload with
  | .frame (.release q) => { e with payload := .frame (.release (q.span r)) }
  | _ => e

/-- The list without its newest element of a class; none when it has none. -/
def displace (cls : Nat) (q : List QEntry) : Option (List QEntry) :=
  if q.any (fun e => e.cls == cls) then some (q.reverse.eraseP (fun e => e.cls == cls)).reverse else none

/-- An offer admitted by room or by displacement, or not queued (R38). -/
def takeOffer (q : List QEntry) (e : QEntry) : List QEntry × OfferResult :=
  if q.length < outQueueSize then (q ++ [e], .admitted)
  else if 2 ≤ e.cls then (q, .notQueued)
  else
    match displace 3 q with
    | some q' => (q' ++ [e], .admitted)
    | none =>
      match displace 2 q with
      | some q' => (q' ++ [e], .admitted)
      | none => (q, .notQueued)

/-- An offer to the outgoing queue (R37, R38). -/
def offerTo (q : List QEntry) (e : QEntry) : List QEntry × OfferResult :=
  match e.payload with
  | .presence => if q.any QEntry.isPresence then (q, .alreadyQueued) else takeOffer q e
  | .claim => if q.any (fun x => x.isClaim || x.isJoin) then (q, .notQueued) else takeOffer q e
  | .frame (.join _ _) => if q.any (fun x => x.isClaim || x.isJoin) then (q, .notQueued) else takeOffer q e
  | .frame (.release r) =>
    match e.side with
    | some side =>
      if q.any (fun x => x.isReleaseOn side) then
        (q.map (fun x => if x.isReleaseOn side then x.mergeRelease r else x), .merged)
      else takeOffer q e
    | none => takeOffer q e
  | .frame _ => takeOffer q e

/-- A unit offers an entry to the outgoing queue; the result is `offerResult` (R37, R38). -/
def State.offer (s : State) (e : QEntry) : State :=
  s.setAccess { s.access with queue := (offerTo s.access.queue e).1 }

/-- What a unit is told of an offer (R37, R38). -/
def State.offerResult (s : State) (e : QEntry) : OfferResult := (offerTo s.access.queue e).2

/-- The CLAIM entry of the reservation unit; its fields come at handover (R34). -/
def claimEntry : QEntry := { payload := .claim, answers := none, side := none }

/-- The PRESENCE entry of the membership unit; its fields come at handover (R34). -/
def presenceEntry : QEntry := { payload := .presence, answers := none, side := none }

/-- A RELEASE entry (R71). -/
def releaseEntry (r : ZRange) (side : Side) : QEntry :=
  { payload := .frame (.release r), answers := none, side := some side }

/-- A JOIN entry (R102). -/
def joinEntry (attempt : Nat) (occupied : ZRange) : QEntry :=
  { payload := .frame (.join attempt occupied), answers := none, side := none }

/-- An EVICT entry (R113). -/
def evictEntry (target : Addr) : QEntry := { payload := .frame (.evict target), answers := none, side := none }

/-- An answer bound to a window (R35). -/
def answerEntry (f : Frame) (w : WindowId) : QEntry := { payload := .frame f, answers := some w, side := none }

end Sys2Proof.Machine
end

