-- ==== Sys2Proof/Machine/Rearm.lean ====
section
/-! DEFINITION. The forming of a claim and the re-arm state of the reservation unit (R74, R75), and the notices and
reports that reach it (R63, R73, R85). -/

namespace Sys2Proof.Machine

/-- A fresh claim record in phase QUEUED (R74). -/
def freshClaim : ClaimRecord :=
  { phase := .queued, tag := none, side := none, requested := .empty, addressee := none, unopposed := false,
    grant := none, refusal := none, refuser := none, inconclusive := false, orphaned := false, outcome := none }

/-- A claim is in flight: its record is QUEUED or WAITING (R68). -/
def State.claimInFlight (s : State) : Bool :=
  match s.resv.claim with
  | none => false
  | some r => r.phase == .queued || r.phase == .waiting

/-- The claim record is in phase WAITING. -/
def State.claimWaiting (s : State) : Bool :=
  match s.resv.claim with
  | none => false
  | some r => r.phase == .waiting

/-- A claim may be formed (R74). -/
def State.mayFormClaim (s : State) : Bool :=
  s.motion.need.isSome && !s.claimInFlight && !s.resv.rearm.waiting && s.memb.state == .joined

/-- The reservation unit forms a claim if it may: a new record in QUEUED and a CLAIM entry offered (R74). -/
def State.formClaim (s : State) : State :=
  if s.mayFormClaim then (s.setResv { s.resv with claim := some freshClaim }).offer claimEntry else s

/-- The re-arm state ARMED (R75). -/
def rearmArmed : Rearm := { waiting := false, watched := [], timer := Timer.stopped }

/-- The re-arm state returns to ARMED, and a claim is formed if it may be (R75, R74). -/
def State.arm (s : State) : State := (s.setResv { s.resv with rearm := rearmArmed }).formClaim

/-- The re-arm state becomes WAITING, watching some addresses (R75). -/
def State.waitRearm (s : State) (watched : List Addr) : State :=
  s.setResv { s.resv with rearm := { waiting := true, watched := watched, timer := Timer.start } }

/-- A directory notice of an address (R63, R75). -/
def State.notice (s : State) (a : Addr) : State :=
  if s.resv.rearm.waiting && (s.resv.rearm.watched.isEmpty || s.resv.rearm.watched.contains a) then s.arm else s

/-- The need's side has changed from the last side the engine needed (R75, R128, log 21). -/
def needSideChanged (last : Option Side) (need : Option Need) : Bool :=
  match last, need with
  | some l, some n => l != n.side
  | _, _ => false

/-- A change of the need is one the engine reports: none to some, another side, or some to none (R73, R128). -/
def needReported (old new : Option Need) : Bool :=
  match old, new with
  | none, none => false
  | none, some _ => true
  | some _, none => true
  | some o, some n => o.side != n.side

/-- The engine stores its claim need and reports it where R128 has it reported; a report of another side re-arms a
waiting reservation unit with attempt 1, and any report lets a claim be formed (R73, R74, R75, R128). -/
def State.setNeed (s : State) (new : Option Need) : State :=
  let last := s.motion.lastNeedSide
  let s1 := s.setMotion { s.motion with
    need := new, lastNeedSide := match new with | some n => some n.side | none => last }
  if needReported s.motion.need new then
    if needSideChanged last new && s.resv.rearm.waiting then
      (s1.setResv { s1.resv with attempt := 1 }).arm
    else s1.formClaim
  else s1

/-- The engine reports that the move or relocate has ended: a claim in WAITING is orphaned (R85). -/
def State.orphanClaim (s : State) : State :=
  match s.resv.claim with
  | none => s
  | some r =>
    if r.phase = .waiting then s.setResv { s.resv with claim := some { r with orphaned := true } } else s

end Sys2Proof.Machine
end

