-- ==== Sys2Proof/Machine/Engine.lean ====
section
/-! DEFINITION. The motion engine's shared operations: the claim need (R127, R128), changes of H and releases (R69 to R72,
R130, R138), the ends of moves and relocates (R134, R141), and the choice of a relocate's direction (R136, R137). -/

namespace Sys2Proof.Machine

/-- The claim need of a move (R127). -/
def moveNeed (c : Config) (p target : Nat) (side : Side) (h : ZRange) : Option Need :=
  match occupiedAt c target, occupiedAt c p, h with
  | some (.run tlo thi), some (.run olo ohi), .run hlo hhi =>
    match side with
    | .up =>
      let wantHi := min thi (ohi + c.a)
      if hhi < wantHi then some { side := .up, lo := hhi + 1, hi := wantHi } else none
    | .down =>
      let wantLo := max tlo (olo - c.a)
      if wantLo < hlo then some { side := .down, lo := wantLo, hi := hlo - 1 } else none
  | _, _, _ => none

/-- The claim need of a relocate in phase CLAIMING: the single missing zone (R136, R137). -/
def relocNeed (c : Config) (r : RelocRecord) : Option Need :=
  match r.phase, r.side with
  | .stepping, _ => none
  | .claiming, .down => some { side := .down, lo := r.k - 1, hi := r.k - 1 }
  | .claiming, .up => some { side := .up, lo := r.k + c.w + 1, hi := r.k + c.w + 1 }

/-- The claim need of the present state (R73, R119, R127). -/
def State.computeNeed (s : State) : Option Need :=
  if s.resv.held = .empty then none
  else
    match s.motion.state with
    | .moving | .stalled =>
      match s.motion.known, s.motion.target, s.motion.direction with
      | true, some t, some d => moveNeed s.port.cfg s.motion.p t d s.resv.held
      | _, _, _ => none
    | .relocating =>
      match s.motion.reloc with
      | some r => relocNeed s.port.cfg r
      | none => none
    | .unplaced | .idle | .halted => none

/-- The engine computes the need afresh (R128). -/
def State.updateNeed (s : State) : State := s.setNeed s.computeNeed

/-- The candidate position of the next step of a move (R123). -/
def State.candidate (s : State) : Option Nat :=
  match s.motion.direction with
  | some .up => some (s.motion.p + 1)
  | some .down => if s.motion.p = 0 then none else some (s.motion.p - 1)
  | none => none

/-- The next step fits: the candidate's occupied range lies inside H (R123). -/
def State.stepFits (s : State) : Bool := fitsIn s.port.cfg s.candidate s.resv.held

/-- The relocate range of a record's direction lies inside a range (R136, R137). -/
def relocFits (c : Config) (r : RelocRecord) (h : ZRange) : Bool :=
  match relocateRange c r.k r.side with
  | some q => q.inside h
  | none => false

/-- The engine is told of a change of H: a stalled move goes on if its step now fits, a relocate in CLAIMING begins to
step if it now holds its range, and the need is computed afresh (R88, R128, R130, R138). -/
def State.onHeldChange (s : State) : State :=
  let s1 : State :=
    match s.motion.state with
    | .stalled =>
      if s.stepFits then
        s.setMotion { s.motion with state := .moving, stallTimer := Timer.stopped, stepTimer := Timer.start }
      else s
    | .relocating =>
      match s.motion.reloc with
      | some r =>
        if r.phase = .claiming ∧ relocFits s.port.cfg r s.resv.held = true then
          s.setMotion { s.motion with reloc := some { r with phase := .stepping }, stepTimer := Timer.start }
        else s
      | none => s
    | .unplaced | .idle | .moving | .halted => s
  s1.updateNeed

/-- H takes a value, and a change of it is reported to the engine (R69, R88). -/
def State.setHeld (s : State) (h : ZRange) : State :=
  let s1 := s.setResv { s.resv with held := h }
  if h = s.resv.held then s1 else s1.onHeldChange

/-- A release of a given range on a side: H shrinks by edge removal, and a RELEASE is offered (R71). -/
def State.release (s : State) (r : ZRange) (side : Side) : State :=
  if r = .empty then s
  else
    let h := s.resv.held.remove r
    let s1 := (s.setResv { s.resv with held := h }).offer (releaseEntry r side)
    if h = s.resv.held then s1 else s1.onHeldChange

/-- Release below a zone: the zones of H under it, side DOWN (R71). -/
def State.releaseBelow (s : State) (z : Nat) : State :=
  s.release (if z = 0 then .empty else s.resv.held.inter (.run 0 (z - 1))) .down

/-- Release above a zone: the zones of H over it, side UP (R71). -/
def State.releaseAbove (s : State) (z : Nat) : State :=
  s.release (s.resv.held.inter (.run (z + 1) (s.port.cfg.z - 1))) .up

/-- The trim: every held zone outside the occupied range is released, below first; none when the position is not known
(R72, R134). -/
def State.trim (s : State) : State :=
  match s.occupied with
  | .empty => s
  | .run lo hi => (s.releaseBelow lo).releaseAbove hi

/-- The step timer stops; a step whose DIR set-up is running is given up (R122, log 20). -/
def Motion.stopStepping (m : Motion) : Motion := { m with stepTimer := Timer.stopped, setupTimer := Timer.stopped }

/-- The end of a move, in IDLE or HALTED, in the order of R134. -/
def State.endMove (s : State) (reason : EndReason) : State :=
  let s1 := s.setMotion { s.motion.stopStepping with stallTimer := Timer.stopped }
  let s2 := if s1.motion.state = .idle then s1.trim else s1
  let s3 := (s2.setMotion { s2.motion with target := none, direction := none }).updateNeed
  let s4 := s3.orphanClaim
  s4.queueEvent (.moveEnded reason (if s4.motion.known then some s4.motion.p else none))

/-- The end of a relocate that has not seen its boundary, in the order of R141; `after` is the state it leaves. -/
def State.endRelocate (s : State) (reason : EndReason) (after : MotionState) : State :=
  match s.motion.reloc with
  | none => s.setMotion { s.motion.stopStepping with state := after }
  | some r =>
    let s1 := (s.setMotion s.motion.stopStepping).setNeed none
    let s2 := s1.orphanClaim
    let s3 := s2.setMotion { s2.motion with reloc := none, state := after }
    s3.queueEvent (.relocateEnded reason r.k)

/-- A relocate enters a phase in a direction: STEPPING with the step timer from 0 when its range lies inside H, CLAIMING
otherwise (R122, R136, R137). -/
def State.enterDirection (s : State) (r : RelocRecord) : State :=
  if relocFits s.port.cfg r s.resv.held then
    (s.setMotion { s.motion with reloc := some { r with phase := .stepping }, stepTimer := Timer.start }).updateNeed
  else
    (s.setMotion { s.motion with reloc := some { r with phase := .claiming }, stepTimer := Timer.stopped }).updateNeed

/-- A relocate turns to UP, or ends BLOCKED where no up relocate is possible (R137). -/
def State.relocateUp (s : State) (r : RelocRecord) : State :=
  if (relocateRange s.port.cfg r.k .up).isSome then s.enterDirection { r with side := .up }
  else s.endRelocate .blocked .unplaced

/-- A relocate chooses its direction (R136). -/
def State.chooseDirection (s : State) (r : RelocRecord) : State :=
  if (conservativeRange s.port.cfg r.k).inside s.resv.held then
    if 1 ≤ r.k then s.enterDirection { r with side := .down } else s.relocateUp r
  else s.endRelocate .blocked .unplaced

/-- CLAIM_FAILED of a side is reported to the engine (R88, R138). -/
def State.onClaimFailed (s : State) (side : Side) : State :=
  match s.motion.state, s.motion.reloc with
  | .relocating, some r =>
    if r.phase = .claiming ∧ r.side = side then
      match side with
      | .down => s.relocateUp { r with downTried := true }
      | .up => s.endRelocate .blocked .unplaced
    else s
  | _, _ => s

/-! ### Faults (R142, R165 to R168) -/

/-- A fault report (R166). -/
inductive FaultReport where
  | tracking
  | relocateLimit
  | intrusion (station : Addr)
  | evicted
deriving DecidableEq, Repr

/-- The cause a report names (R166). -/
def FaultReport.cause : FaultReport → FaultCause
  | .tracking => .tracking
  | .relocateLimit => .relocateLimit
  | .intrusion _ => .intrusion
  | .evicted => .evicted

/-- An address added to a set of addresses. -/
def addAddr (l : List Addr) (a : Addr) : List Addr := if l.contains a then l else l ++ [a]

/-- The latch after a report; none when the report is absorbed (R167). -/
def FaultUnit.take (f : FaultUnit) (r : FaultReport) : Option FaultUnit :=
  match r, f.cause with
  | .intrusion a, none => some { f with cause := some .intrusion, intruders := addAddr f.intruders a }
  | .intrusion a, some _ =>
    if f.intruders.contains a then none else some { f with further := true, intruders := addAddr f.intruders a }
  | .evicted, none => some { f with cause := some .evicted }
  | .evicted, some _ => some { f with cause := some .evicted, further := true }
  | .tracking, none => some { f with cause := some .tracking }
  | .tracking, some _ => some { f with further := true }
  | .relocateLimit, none => some { f with cause := some .relocateLimit }
  | .relocateLimit, some _ => some { f with further := true }

/-- The position becomes unknown at the latching of this cause (R119, R142). -/
def FaultCause.losesPosition : FaultCause → Bool
  | .tracking => true
  | .relocateLimit => true
  | .intrusion => false
  | .evicted => true

/-- A step pulse or a DIR set-up in progress is cut short (R121). -/
def Motion.cutPulse (m : Motion) : Motion :=
  { m with stepHigh := false, pulseTimer := Timer.stopped, setupTimer := Timer.stopped }

/-- The engine is forced into HALTED by the latching of a cause (R142). -/
def State.forceHalt (s : State) (cause : FaultCause) : State :=
  let s1 := s.setMotion { s.motion.cutPulse with known := s.motion.known && !cause.losesPosition }
  match s1.motion.state with
  | .moving | .stalled => (s1.setMotion { s1.motion with state := .halted }).endMove .fault
  | .relocating => s1.endRelocate .fault .halted
  | .idle | .unplaced => (s1.setMotion { s1.motion with state := .halted }).updateNeed
  | .halted => s1

/-- A fault report is taken: the latch, the FAULT event, and the engine into HALTED, in the order of R168; a report that
is absorbed changes nothing (R167, R168). -/
def State.reportFault (s : State) (r : FaultReport) : State :=
  match s.fault.take r with
  | none => s
  | some f => ((s.setFault f).queueEvent (.fault r.cause)).forceHalt r.cause

end Sys2Proof.Machine
end

