-- ==== Sys2Proof/Machine/PeerDirectory.lean ====
section
/-! DEFINITION. The peer directory: what each kind of valid frame does to it (R50 to R58, R61), ageing (R59), and the
resolution of an eviction (R62). -/

namespace Sys2Proof.Machine

/-- The state of an entry that the rules for frame kinds act on: the return state of an EVICTING entry, else its state
(R50). -/
def State.standing (s : State) (a : Addr) : PeerState :=
  match s.dir.eviction with
  | none => (s.entry a).state
  | some r => if r.target = a ∧ (s.entry a).state = .evicting then r.returnState else (s.entry a).state

/-- An entry written with its fields and its state; while it is EVICTING the state goes to the return state (R50). -/
def State.setEntry (s : State) (a : Addr) (st : PeerState) (e : PeerEntry) : State :=
  match s.dir.eviction with
  | none => s.setDir { s.dir with entries := s.dir.entries.set a { e with state := st } }
  | some r =>
    if r.target = a ∧ (s.entry a).state = .evicting then
      s.setDir { entries := s.dir.entries.set a { e with state := .evicting }, eviction := some { r with returnState := st } }
    else s.setDir { s.dir with entries := s.dir.entries.set a { e with state := st } }

/-- A change of an entry's state, return state or held range is notified to the reservation unit (R63). -/
def State.noticeChange (after before : State) (a : Addr) : State :=
  if before.standing a ≠ after.standing a ∨ (before.entry a).state ≠ (after.entry a).state ∨
      (before.entry a).held ≠ (after.entry a).held then after.notice a
  else after

/-- The age of a sender's entry is set to 0 (R50). -/
def State.touch (s : State) (a : Addr) : State :=
  if s.isPeer a then s.setDir { s.dir with entries := s.dir.entries.set a { s.entry a with age := 0 } } else s

/-- The event of an entry going to PRESENT from a state (R51, R54, R66). -/
def State.presentEvent (s : State) (a : Addr) (old : PeerState) : State :=
  match old with
  | .absent | .joining => s.queueEvent (.peerJoined a)
  | .silent => s.queueEvent (.peerBack a)
  | .present | .evicting => s

/-- A valid PRESENCE from a peer (R51, R52, R53). -/
def State.dirPresence (s : State) (x : Addr) (held occupied : ZRange) (mode : MotionState) : State :=
  let h := s.resv.held
  let s1 := s.setEntry x .present { s.entry x with held := clip h held occupied, occupied := occupied, mode := mode }
  let s2 := s1.presentEvent x (s.standing x)
  let s3 := match clipRemoved h held with
    | some z => s2.queueEvent (.conflict x z)
    | none => s2
  let s4 := if occupied.overlaps h then s3.reportFault (.intrusion x) else s3
  s4.noticeChange s x

/-- The held range of an entry extended by a granted range, before the clip (R54). -/
def grantExtended (e : PeerEntry) (g : ZRange) : ZRange :=
  match e.state with
  | .absent => g
  | .joining => (e.held.span e.occupied).span g
  | .present | .silent | .evicting => e.held.span g

/-- A valid GRANT to a claimant that is a peer (R54). -/
def State.dirGrant (s : State) (x : Addr) (g : ZRange) : State :=
  let old := s.standing x
  let e := s.entry x
  let st := if old = .silent then PeerState.silent else .present
  let s1 := s.setEntry x st { e with held := clip s.resv.held (grantExtended e g) e.occupied }
  let s2 := if old = .silent then s1 else s1.presentEvent x old
  s2.noticeChange s x

/-- A valid RELEASE from a peer (R55). -/
def State.dirRelease (s : State) (x : Addr) (r : ZRange) : State :=
  let e := s.entry x
  let s1 := s.setDir { s.dir with entries := s.dir.entries.set x { e with held := e.held.remove r } }
  s1.noticeChange s x

/-- A valid JOIN from a peer (R56). -/
def State.dirJoin (s : State) (x : Addr) (j : ZRange) : State :=
  if j.overlaps s.resv.held then s
  else (s.setEntry x .joining { s.entry x with occupied := j, mode := .unplaced }).noticeChange s x

/-- A valid EVICT naming a peer: the eviction-pending record is made and the entry becomes EVICTING (R58). -/
def State.dirEvict (s : State) (y : Addr) : State :=
  let e := s.entry y
  let s1 := s.setDir
    { entries := s.dir.entries.set y { e with state := .evicting, held := clip s.resv.held e.held e.occupied }
      eviction := some { target := y, returnState := e.state, aliveHeard := false } }
  s1.noticeChange s y

/-- A REFUSE(ALIVE) by the target of an open EVICT window, answering its originator with tag 0; the directory and the
membership unit test it alike (R61, R114, R181, log 38). -/
def Window.aliveFrom (w : Window) (target sender answered : Addr) (tag : Tag) (reason : RefuseReason) : Bool :=
  w.isOpen && w.kind == some .evict && w.originator == some answered && tag == 0 && reason == .alive && sender == target

/-- A valid REFUSE sets the alive-heard flag when it is the target's objection (R61). -/
def State.dirRefuse (s : State) (sender answered : Addr) (tag : Tag) (reason : RefuseReason) : State :=
  match s.dir.eviction with
  | none => s
  | some r =>
    if s.access.window.aliveFrom r.target sender answered tag reason then
      s.setDir { s.dir with eviction := some { r with aliveHeard := true } }
    else s

/-- The directory takes a valid frame: the age first, then the update of its kind (R50, R57). An own frame makes an
update only for GRANT and EVICT. -/
def State.dirTake (s : State) (sender : Addr) (f : Option Frame) : State :=
  let s1 := s.touch sender
  match f with
  | some (.presence h o m) => if s.isPeer sender then s1.dirPresence sender h o m else s1
  | some (.grant x _ g) => if s.isPeer x then s1.dirGrant x g else s1
  | some (.refuse answered tag reason) => s1.dirRefuse sender answered tag reason
  | some (.release r) => if s.isPeer sender then s1.dirRelease sender r else s1
  | some (.join _ j) => if s.isPeer sender then s1.dirJoin sender j else s1
  | some (.evict y) => if s.isPeer y then s1.dirEvict y else s1
  | some (.claim _ _ _ _ _) => s1
  | some (.recall _ _ _) => s1
  | none => s1

/-- An entry, or the return state of an EVICTING entry, goes SILENT at age 3 P (R59). -/
def State.silence (s : State) (a : Addr) : State :=
  let e := s.entry a
  let held := if s.standing a = .joining then clip s.resv.held (e.held.span e.occupied) e.occupied else e.held
  let s1 := (s.setEntry a .silent { e with held := held }).queueEvent (.peerSilent a)
  s1.noticeChange s a

/-- The directory resolves the eviction-pending record at the close of the EVICT window (R62). -/
def State.dirResolve (s : State) (cause : CloseCause) : State :=
  match s.dir.eviction with
  | none => s
  | some r =>
    let e := s.entry r.target
    if cause = .complete ∧ r.aliveHeard = false then
      let s1 := s.setDir
        { entries := s.dir.entries.set r.target
            { e with state := .absent, held := .empty, occupied := .empty, mode := .unplaced }
          eviction := none }
      let s2 := if r.returnState = .absent then s1 else s1.queueEvent (.peerEvicted r.target)
      s2.noticeChange s r.target
    else
      let s1 := s.setDir { entries := s.dir.entries.set r.target { e with state := r.returnState }, eviction := none }
      s1.noticeChange s r.target

end Sys2Proof.Machine
end

