-- ==== Sys2Proof/Machine/Claims.lean ====
section
/-! DEFINITION. The reservation unit: fixing a claim at its handover (R76 to R79), taking the answers to it (R81),
concluding it (R82 to R88), and answering the claims of others (R89 to R94). -/

namespace Sys2Proof.Machine

/-! ### Fixing a claim (R76 to R78, R90) -/

/-- What a handover of the CLAIM entry at this moment would find (R76, R77, R78). -/
inductive ClaimPlan where
  /-- the need is none -/
  | lapsed
  /-- the neighbour on the need's side is SILENT or EVICTING; the zone of the need next to H -/
  | silent (side : Side) (neighbour : Addr) (zone : Nat)
  /-- the zone next to H is taken -/
  | held (side : Side) (zone : Nat)
  /-- a claim that can be sent -/
  | send (side : Side) (range : ZRange) (addressee : Option Addr)
deriving DecidableEq, Repr

/-- The zone of a need that is adjacent to H (R87). -/
def Need.firstZone (n : Need) : Nat :=
  match n.side with
  | .up => n.lo
  | .down => n.hi

/-- The requested range of a need: its leading part of zones not taken, from the end next to H (R78). -/
def State.requestedRange (s : State) (n : Need) : ZRange :=
  (ZRange.run n.lo n.hi).leadingPart (nearEnd n.side) fun z => !s.taken z

/-- The plan of a handover at this moment (R76, R77, R78). -/
def State.claimPlan (s : State) : ClaimPlan :=
  match s.motion.need with
  | none => .lapsed
  | some n =>
    let send (addressee : Option Addr) : ClaimPlan :=
      match s.requestedRange n with
      | .empty => .held n.side n.firstZone
      | r => .send n.side r addressee
    match s.neighbour s.resv.held n.side with
    | none => send none
    | some a =>
      match (s.entry a).state with
      | .silent | .evicting => .silent n.side a n.firstZone
      | .absent | .joining | .present => send (some a)

/-- The pending range of the station when it answers a claim (R90). -/
def State.pendingRange (s : State) : ZRange :=
  match s.resv.claim with
  | none => .empty
  | some r =>
    match r.phase with
    | .concluded => .empty
    | .waiting => r.requested
    | .queued =>
      match s.claimPlan with
      | .send _ range _ => range
      | .lapsed | .silent _ _ _ | .held _ _ => .empty

/-! ### Failures (R86, R87) -/

/-- CLAIM_FAILED is queued, the attempts start over in WAITING, and the engine is told (R87, R88). -/
def State.claimFailed (s : State) (reason : EventReason) (station : Option Addr) (zone : Nat) (watched : List Addr)
    (side : Side) : State :=
  let s1 := s.queueEvent (.claimFailed reason station zone)
  let s2 := (s1.setResv { s1.resv with attempt := 1, attemptSide := none }).waitRearm watched
  s2.onClaimFailed side

/-- The reason leaves the re-arm state ARMED after a failure (R86). -/
def EventReason.retriesAtOnce : EventReason → Bool
  | .noAnswer => true
  | .inconclusive => true
  | .refused .overlap => true
  | .refused _ => false
  | .neighbourSilent => false

/-- A failed attempt: the fourth ends in CLAIM_FAILED, another counts up and waits or retries by its reason (R86). -/
def State.attemptFailed (s : State) (reason : EventReason) (station : Option Addr) (zone : Nat) (watched : List Addr)
    (side : Side) : State :=
  if s.resv.attempt = 4 then s.claimFailed reason station zone watched side
  else
    let s1 := s.setResv { s.resv with attempt := s.resv.attempt + 1 }
    if reason.retriesAtOnce then s1 else s1.waitRearm watched

/-- The attempts start over and no attempt side is recorded; the re-arm state stays (R83, R85). -/
def State.clearAttempts (s : State) : State := s.setResv { s.resv with attempt := 1, attemptSide := none }

/-! ### Conclusion (R82 to R85) -/

/-- The addresses that exist among two (R75). -/
def watchedOf (a b : Option Addr) : List Addr :=
  match a, b with
  | none, none => []
  | some x, none => [x]
  | none, some y => [y]
  | some x, some y => if x = y then [x] else [x, y]

/-- The zone of a range that a claim on a side asks for first (R87). -/
def firstAsked (side : Side) (r : ZRange) : Nat :=
  match r, side with
  | .empty, _ => 0
  | .run lo _, .up => lo
  | .run _ hi, .down => hi

/-- The part of a candidate range before a zone, seen from H on a side, and the rest with that zone (R83). -/
def splitAt (side : Side) (candidate : ZRange) (z : Nat) : ZRange × ZRange :=
  match candidate, side with
  | .empty, _ => (.empty, .empty)
  | .run lo hi, .up => (if lo < z then .run lo (z - 1) else .empty, .run z hi)
  | .run lo hi, .down => (if z < hi then .run (z + 1) hi else .empty, .run lo z)

/-- A candidate range clipped against the directory at conclusion: the CONFLICT and the release of the remainder, and
the added range that is left (R83). -/
def State.clipCandidate (s : State) (side : Side) (candidate : ZRange) : State × ZRange :=
  match s.firstTaken candidate (nearEnd side) with
  | none => (s, candidate)
  | some z =>
    let parts := splitAt side candidate z
    let s1 := match s.holder z with
      | some a => s.queueEvent (.conflict a z)
      | none => s
    (s1.release parts.2 side, parts.1)

/-- A claim concluded as GRANTED or UNOPPOSED with a candidate range (R83, R85). An added range that is not adjacent to H is
released as an orphaned claim's is; that the attempts then start over as an orphaned claim's do, with no failure counted,
is the model's choice (log 39). -/
def State.addRange (s : State) (r : ClaimRecord) (side : Side) (candidate : ZRange) : State :=
  let clipped := s.clipCandidate side candidate
  let s1 := clipped.1
  let added := clipped.2
  if r.orphaned then (s1.release added side).clearAttempts
  else if added = .empty then
    s1.attemptFailed (.refused .held) r.addressee (firstAsked side r.requested) (watchedOf r.addressee r.refuser) side
  else if added.adjacent s1.resv.held side then (s1.setHeld (s1.resv.held.span added)).clearAttempts
  else (s1.release added side).clearAttempts

/-- A claim concluded without zones: disclaim, then the retry rules (R84, R85, R86). -/
def State.disclaim (s : State) (r : ClaimRecord) (side : Side) (reason : EventReason) : State :=
  let s1 := s.release r.requested side
  if r.orphaned then s1.clearAttempts
  else s1.attemptFailed reason r.addressee (firstAsked side r.requested) (watchedOf r.addressee r.refuser) side

/-- The claim record takes an outcome and enters CONCLUDED; the own window is no longer outstanding (R82). -/
def State.markConcluded (s : State) (r : ClaimRecord) (outcome : ClaimOutcome) : State :=
  let s1 := s.setResv { s.resv with claim := some { r with phase := .concluded, outcome := some outcome } }
  s1.setAccess { s1.access with ownWindow := false }

/-- The outcome of a claim, the first row of R82 whose condition holds. -/
def ClaimRecord.concludes (r : ClaimRecord) : ClaimOutcome :=
  if r.inconclusive then .inconclusive
  else if r.refusal.isSome then .refused
  else if r.grant.isSome then .granted
  else if r.unopposed then .unopposed
  else .noAnswer

/-- A waiting claim concludes, at its window's close or when its frame is lost; a new claim is then formed if it may be
(R80, R82, R74). -/
def State.concludeClaim (s : State) (inconclusive : Bool) : State :=
  match s.resv.claim with
  | none => s
  | some r0 =>
    if r0.phase ≠ .waiting then s
    else
      let r := { r0 with inconclusive := r0.inconclusive || inconclusive }
      let side := r.side.getD .down
      let s1 := s.markConcluded r r.concludes
      let s2 : State :=
        match r.concludes with
        | .granted => s1.addRange r side (r.grant.getD .empty)
        | .unopposed => s1.addRange r side r.requested
        | .refused => s1.disclaim r side (.refused (r.refusal.getD .held))
        | .noAnswer => s1.disclaim r side .noAnswer
        | .inconclusive | .neighbourSilent | .held => s1.disclaim r side .inconclusive
      s2.formClaim

/-! ### The claim at its handover (R76 to R79) -/

/-- The need is read at the handover: another side than the attempt side starts the attempts over (R76). -/
def State.readNeedSide (s : State) (side : Side) : State :=
  s.setResv { s.resv with
    attempt := if s.resv.attemptSide = some side then s.resv.attempt else 1, attemptSide := some side }

/-- The queue without its CLAIM entry (R34). -/
def State.dropClaimEntry (s : State) : State :=
  s.setAccess { s.access with queue := s.access.queue.filter fun e => !e.isClaim }

/-- The claim record concluded at a handover with a local outcome; no frame was sent (R77, R78). -/
def State.concludeLocally (s : State) (outcome : ClaimOutcome) : State :=
  match s.resv.claim with
  | none => s
  | some r => s.setResv { s.resv with claim := some { r with phase := .concluded, outcome := some outcome } }

/-- A handover that finds nothing to send: the entry leaves the queue and the record is discarded or concluded with its
local outcome (R76, R77, R78, R86, R87). On a local HELD failure the holder of the first zone alone is watched: no addressee
was fixed, since no claim was sent (log 29). -/
def State.claimNotSent (s : State) (plan : ClaimPlan) : State :=
  let s0 := s.dropClaimEntry
  match plan with
  | .lapsed => s0.setResv { s0.resv with claim := none, attempt := 1, attemptSide := none }
  | .silent side a zone =>
    (((s0.readNeedSide side).concludeLocally .neighbourSilent).claimFailed .neighbourSilent (some a) zone [a]
      side).formClaim
  | .held side zone =>
    let s1 := (s0.readNeedSide side).concludeLocally .held
    (s1.attemptFailed (.refused .held) (s1.holder zone) zone (watchedOf (s1.holder zone) none) side).formClaim
  | .send _ _ _ => s0

/-- The tag of the next CLAIM (R79). -/
def State.nextTag (s : State) : Tag := s.resv.tagCounter + 1

/-- The CLAIM frame supplied at a handover (R79). -/
def State.claimFrame (s : State) (side : Side) (range : ZRange) (addressee : Option Addr) : Frame :=
  .claim (addressee.getD 0) s.nextTag side addressee.isNone range

/-- The record of a claim whose handover the line unit has accepted (R79). -/
def State.claimSent (s : State) (side : Side) (range : ZRange) (addressee : Option Addr) : State :=
  let r := s.resv.claim.getD freshClaim
  let s1 := s.setResv { s.resv with
    tagCounter := s.nextTag
    claim := some { r with
      phase := .waiting, tag := some s.nextTag, side := some side, requested := range, addressee := addressee,
      unopposed := addressee.isNone, grant := none, refusal := none, refuser := none } }
  s1.setAccess { s1.access with ownWindow := true }

/-! ### Answers to this station's claim (R81) -/

/-- The open window is the one this station's frame of a kind opened. -/
def State.ownOpen (s : State) (kind : WindowKind) : Bool :=
  s.access.window.isOpen && s.access.window.originator == some s.straps.address && s.access.window.kind == some kind

/-- A range is a leading part of a requested range from the end next to H (R81). -/
def isLeadingPart (side : Side) (g requested : ZRange) : Bool :=
  match g, requested, side with
  | .run glo ghi, .run lo hi, .up => glo == lo && ghi ≤ hi
  | .run glo ghi, .run lo hi, .down => ghi == hi && lo ≤ glo
  | _, _, _ => false

/-- A GRANT matches the waiting claim (R81). -/
def ClaimRecord.matchesGrant (r : ClaimRecord) (own sender claimant : Addr) (tag : Tag) (g : ZRange) : Bool :=
  claimant == own && r.tag == some tag && r.addressee == some sender && isLeadingPart (r.side.getD .down) g r.requested

/-- A waiting claim takes a GRANT (R81). -/
def State.claimGrant (s : State) (sender claimant : Addr) (tag : Tag) (g : ZRange) : State :=
  match s.resv.claim with
  | none => s
  | some r =>
    if r.phase = .waiting ∧ s.ownOpen .claim = true ∧ r.matchesGrant s.straps.address sender claimant tag g = true ∧
        r.grant = none then
      s.setResv { s.resv with claim := some { r with grant := some g } }
    else s

/-- A waiting claim takes a REFUSE (R81). -/
def State.claimRefuse (s : State) (sender answered : Addr) (tag : Tag) (reason : RefuseReason) : State :=
  match s.resv.claim with
  | none => s
  | some r =>
    if r.phase = .waiting ∧ s.ownOpen .claim = true ∧ answered = s.straps.address ∧ r.tag = some tag ∧
        r.refusal = none then
      s.setResv { s.resv with claim := some { r with refusal := some reason, refuser := some sender } }
    else s

/-! ### Answering the claims of others (R89 to R94) -/

/-- The ADJACENCY test of an addressee (R91). -/
def State.failsAdjacency (s : State) (x : Addr) (side : Side) (range : ZRange) : Bool :=
  let h := s.resv.held
  let e := s.extent x
  match side with
  | .up => h == .empty || e == .empty || !e.below h || range.above h || !(s.between e h x).isEmpty
  | .down => h == .empty || e == .empty || !e.above h || range.below h || !(s.between h e x).isEmpty

/-- The answer of an addressee (R91, R92). -/
def State.addresseeAnswer (s : State) (x : Addr) (tag : Tag) (side : Side) (range : ZRange) : Frame :=
  let h := s.resv.held
  let pend := s.pendingRange
  if s.memb.state ≠ .joined then .refuse x tag .notJoined
  else if (s.entry x).state = .absent then .refuse x tag .stranger
  else if s.failsAdjacency x side range then .refuse x tag .adjacency
  else
    match range.leadingPart (nearEnd side) (fun z => !h.has z && !pend.has z) with
    | .empty => if pend.has (firstAsked side range) then .refuse x tag .pending else .refuse x tag .held
    | g => .grant x tag g

/-- The answer of a third party, if any (R93, R94). -/
def State.thirdPartyAnswer (s : State) (x : Addr) (tag : Tag) (range : ZRange) : Option Frame :=
  match s.memb.state with
  | .joined =>
    if range.overlaps s.resv.held then some (.refuse x tag .held)
    else if range.overlaps s.pendingRange then some (.refuse x tag .pending)
    else none
  | .listening | .detached =>
    match s.reading with
    | some k => if (conservativeRange s.port.cfg k).overlaps range then some (.refuse x tag .occupied) else none
    | none => none
  | .joining | .dormant | .evicted => none

/-- The answer to a peer's CLAIM, if any (R89). -/
def State.claimAnswer (s : State) (x addressee : Addr) (tag : Tag) (side : Side) (unopposed : Bool) (range : ZRange) :
    Option Frame :=
  if unopposed = false ∧ addressee = s.straps.address then some (s.addresseeAnswer x tag side range)
  else s.thirdPartyAnswer x tag range

/-- The reservation unit takes a CLAIM from a peer that is not marked as answered: it queues its answer, bound to the
claim's window (R89). -/
def State.answerClaim (s : State) (x addressee : Addr) (tag : Tag) (side : Side) (unopposed : Bool) (range : ZRange) :
    State :=
  match s.claimAnswer x addressee tag side unopposed range with
  | none => s
  | some f => s.offer (answerEntry f { originator := x, kind := .claim })

end Sys2Proof.Machine
end

