-- ==== Sys2Proof/Machine/Members.lean ====
section
/-! DEFINITION. The membership unit: the join attempt (R102 to R104, R108 to R110), answers to joins (R105, R106), presence
(R111, R112), evictions ordered and suffered (R113 to R116). -/

namespace Sys2Proof.Machine

/-! ### Presence (R111, R112) -/

/-- A PRESENCE is made due, and offered when it was not due already (R111). -/
def State.makePresenceDue (s : State) : State :=
  if s.memb.presenceDue then s else (s.setMemb { s.memb with presenceDue := true }).offer presenceEntry

/-- A PRESENCE has been sent: no longer due, and the timer restarts (R111, R112). -/
def State.presenceSent (s : State) : State :=
  s.setMemb { s.memb with presenceDue := false, presenceTimer := Timer.start }

/-! ### The join attempt (R101 to R103) -/

/-- A join record with only its phase, attempt and J (R101). -/
def joinRecord (phase : JoinPhase) (attempt : Nat) (occupied : ZRange) : JoinRecord :=
  { phase := phase, attempt := attempt, occupied := occupied, expectedLower := none, expectedUpper := none,
    lowBound := none, highBound := none, lowHeard := false, highHeard := false, intrusion := none, overlap := false,
    inconclusive := false }

/-- A zone reading is taken for a join attempt: a JOIN is formed and offered, or the record waits in READING (R102). -/
def State.beginAttempt (s : State) (attempt : Nat) : State :=
  match s.reading with
  | some k =>
    let j := conservativeRange s.port.cfg k
    (s.setMemb { s.memb with join := some (joinRecord .queued attempt j), listenTimer := Timer.stopped }).offer
      (joinEntry attempt j)
  | none => s.setMemb { s.memb with join := some (joinRecord .reading attempt .empty), listenTimer := Timer.start }

/-- A neighbour that a joiner expects to hear: one found in state PRESENT (R103). -/
def State.expectedNeighbour (s : State) (j : ZRange) (side : Side) : Option Addr :=
  match s.neighbour j side with
  | none => none
  | some a => if (s.entry a).state = .present then some a else none

/-- The handover of the JOIN is accepted (R103). -/
def State.joinSent (s : State) : State :=
  match s.memb.join with
  | none => s
  | some r =>
    let s1 := s.setMemb { s.memb with join := some { r with
      phase := .waiting, expectedLower := s.expectedNeighbour r.occupied .down,
      expectedUpper := s.expectedNeighbour r.occupied .up } }
    s1.setAccess { s1.access with ownWindow := true }

/-! ### Answers to this station's join (R104) -/

/-- The tighter of two LOW bounds, the greater (R104). -/
def tighterLow (held : Option Nat) (b : Nat) : Nat := match held with | none => b | some v => max v b

/-- The tighter of two HIGH bounds, the lesser (R104). -/
def tighterHigh (held : Option Nat) (b : Nat) : Nat := match held with | none => b | some v => min v b

/-- A join record takes a RECALL naming this station (R104). -/
def JoinRecord.takeRecall (r : JoinRecord) (sender : Addr) (side : Side) (bound : Nat) : JoinRecord :=
  match side, r.occupied with
  | .down, .run jlo _ =>
    if bound ≤ jlo then
      { r with lowBound := some (tighterLow r.lowBound bound), lowHeard := r.lowHeard || r.expectedLower == some sender }
    else r
  | .up, .run _ jhi =>
    if jhi ≤ bound then
      { r with highBound := some (tighterHigh r.highBound bound),
               highHeard := r.highHeard || r.expectedUpper == some sender }
    else r
  | _, .empty => r

/-- A waiting join takes a RECALL (R104). -/
def State.joinRecall (s : State) (sender joiner : Addr) (side : Side) (bound : Nat) : State :=
  match s.memb.join with
  | none => s
  | some r =>
    if r.phase = .waiting ∧ s.ownOpen .join = true ∧ joiner = s.straps.address then
      s.setMemb { s.memb with join := some (r.takeRecall sender side bound) }
    else s

/-- A join record takes a REFUSE naming this station with tag 0 (R104). -/
def JoinRecord.takeRefuse (r : JoinRecord) (sender : Addr) (reason : RefuseReason) : JoinRecord :=
  match reason with
  | .intrusion => if r.intrusion.isNone then { r with intrusion := some sender } else r
  | .overlap => { r with overlap := true }
  | .held | .pending | .adjacency | .stranger | .notJoined | .occupied | .alive => r

/-- A waiting join takes a REFUSE (R104). -/
def State.joinRefuse (s : State) (sender answered : Addr) (tag : Tag) (reason : RefuseReason) : State :=
  match s.memb.join with
  | none => s
  | some r =>
    if r.phase = .waiting ∧ s.ownOpen .join = true ∧ answered = s.straps.address ∧ tag = 0 then
      s.setMemb { s.memb with join := some (r.takeRefuse sender reason) }
    else s

/-! ### Concluding a join (R108 to R110) -/

/-- The join fails: JOIN_FAILED is queued and the station is DETACHED (R100, R108, R109, R110). -/
def State.joinFailed (s : State) (reason : EventReason) (station : Option Addr) : State :=
  (s.setMemb { s.memb with state := .detached, join := none, listenTimer := Timer.stopped }).queueEvent
    (.joinFailed reason station)

/-- A failed attempt is retried, or the fourth fails the join (R110). -/
def State.joinRetry (s : State) (attempt : Nat) (reason : EventReason) (station : Option Addr) : State :=
  if attempt < 4 then s.beginAttempt (attempt + 1) else s.joinFailed reason station

/-- The adopted range of a join (R109). -/
def JoinRecord.adopted (r : JoinRecord) : ZRange :=
  match r.occupied with
  | .empty => .empty
  | .run jlo jhi => .run (r.lowBound.getD jlo) (r.highBound.getD jhi)

/-- The station adopts its held range and becomes JOINED, or fails where the range is taken (R109). -/
def State.adopt (s : State) (r : JoinRecord) : State :=
  match (s.overlapping r.adopted).head? with
  | some a => s.joinFailed (.refused .intrusion) (some a)
  | none =>
    let s1 := s.setHeld r.adopted
    let s2 := s1.setMemb { s1.memb with state := .joined, join := none, presenceTimer := Timer.start }
    (s2.makePresenceDue.queueEvent .joinDone).formClaim

/-- An expected neighbour that was not heard, the lower side first (R108, R110). -/
def JoinRecord.unheardNeighbour (r : JoinRecord) : Option Addr :=
  match r.expectedLower, r.lowHeard, r.expectedUpper, r.highHeard with
  | some a, false, _, _ => some a
  | _, _, some b, false => some b
  | _, _, _, _ => none

/-- A waiting join concludes, at its window's close or when its frame is lost (R108). -/
def State.concludeJoin (s : State) (inconclusive : Bool) : State :=
  match s.memb.join with
  | none => s
  | some r =>
    if r.phase ≠ .waiting then s
    else
      let s1 := s.setMemb { s.memb with join := some { r with phase := .concluded, inconclusive := inconclusive } }
      let s2 := s1.setAccess { s1.access with ownWindow := false }
      if inconclusive then s2.joinRetry r.attempt .inconclusive none
      else
        match r.intrusion with
        | some a => s2.joinFailed (.refused .intrusion) (some a)
        | none =>
          if r.overlap then s2.joinRetry r.attempt (.refused .overlap) none
          else
            match r.unheardNeighbour with
            | some a => s2.joinRetry r.attempt .noAnswer (some a)
            | none => s2.adopt r

/-! ### Answering the joins of others (R105, R106) -/

/-- The LOW bound of a lower neighbour (R106). -/
def lowBoundFor (h held : ZRange) (jlo : Nat) : Nat :=
  let b := match held with | .run lo _ => min lo jlo | .empty => jlo
  match h with
  | .run _ hhi => if b ≤ hhi then hhi + 1 else b
  | .empty => b

/-- The HIGH bound of an upper neighbour (R106). -/
def highBoundFor (h held : ZRange) (jhi : Nat) : Nat :=
  let b := match held with | .run _ hi => max hi jhi | .empty => jhi
  match h with
  | .run hlo _ => if hlo ≤ b then hlo - 1 else b
  | .empty => b

/-- The RECALL a JOINED station owes a joiner, if it is its neighbour (R106). -/
def State.recallAnswer (s : State) (x : Addr) (j : ZRange) : Option Frame :=
  let h := s.resv.held
  match j with
  | .empty => none
  | .run jlo jhi =>
    if h.below j && (s.between h j x).isEmpty then some (.recall x .down (lowBoundFor h (s.entry x).held jlo))
    else if h.above j && (s.between j h x).isEmpty then some (.recall x .up (highBoundFor h (s.entry x).held jhi))
    else none

/-- The membership unit takes a JOIN from a peer; `answered` marks one the access unit has answered (R105, R106). -/
def State.answerJoin (s : State) (x : Addr) (j : ZRange) (answered : Bool) : State :=
  let w : WindowId := { originator := x, kind := .join }
  if s.memb.state ≠ .joined then s
  else if j.overlaps s.resv.held then
    let s1 := if answered then s else s.offer (answerEntry (.refuse x 0 .intrusion) w)
    s1.reportFault (.intrusion x)
  else if answered then s
  else
    match s.recallAnswer x j with
    | some f => s.offer (answerEntry f w)
    | none => s

/-! ### Evictions (R113 to R116) -/

/-- The membership unit takes an EVICT that names this station; a target that is not JOINED passes it over (R115). -/
def State.targeted (s : State) (originator : Addr) (answered : Bool) : State :=
  if s.memb.state ≠ .joined then s
  else
    let s1 := s.setMemb { s.memb with target := some { originator := originator, sent := false } }
    if answered then s1
    else s1.offer (answerEntry (.refuse originator 0 .alive) { originator := originator, kind := .evict })

/-- A waiting eviction record takes the target's objection (R114, R181). -/
def State.evictRefuse (s : State) (sender answered : Addr) (tag : Tag) (reason : RefuseReason) : State :=
  match s.memb.evict with
  | none => s
  | some r =>
    if r.waiting = true ∧ answered = s.straps.address ∧
        s.access.window.aliveFrom r.target sender answered tag reason = true then
      s.setMemb { s.memb with evict := some { r with aliveHeard := true } }
    else s

/-- The eviction this station ordered ends in EVICT_FAILED(INCONCLUSIVE) (R113, R114). -/
def State.evictInconclusive (s : State) : State :=
  match s.memb.evict with
  | none => s
  | some r => (s.setMemb { s.memb with evict := none }).queueEvent (.evictFailed .inconclusive r.target)

/-- The eviction this station ordered concludes at its window's close (R114). -/
def State.concludeEvict (s : State) (cause : CloseCause) : State :=
  match s.memb.evict with
  | none => s
  | some r =>
    if r.waiting = false then s
    else if cause = .complete then
      (s.setMemb { s.memb with evict := none }).queueEvent
        (if r.aliveHeard then .evictFailed (.refused .alive) r.target else .evictDone r.target)
    else s.evictInconclusive

/-- The station takes itself off the rail (R116): each block's effect, then the report that latches EVICTED. -/
def State.becomeEvicted (s : State) : State :=
  let s1 := s.setMemb
    { s.memb with state := .evicted, listenTimer := Timer.stopped, presenceTimer := Timer.stopped, presenceDue := false,
                  join := none, evict := none, target := none }
  let s2 := s1.setResv { s1.resv with held := .empty, claim := none }
  let s3 := s2.setLine { s2.line with rx := .off, lineTimer := Timer.stopped, burst := none, txChars := [] }
  let s4 := s3.setAccess
    { s3.access with phase := .unsynced, busTimer := Timer.stopped, slot := none, queue := [], inTx := none,
                     window := { s3.access.window with isOpen := false, unheard := [] }, ownWindow := false }
  s4.reportFault .evicted

/-- The target record is resolved at the close of the EVICT window (R115, R116). -/
def State.resolveTarget (s : State) (cause : CloseCause) : State :=
  match s.memb.target with
  | none => s
  | some r =>
    let s1 := s.setMemb { s.memb with target := none }
    if r.sent then s1
    else
      match cause with
      | .complete => s1.makePresenceDue
      | .cut => s1.becomeEvicted
      | .superseded => s1

end Sys2Proof.Machine
end

