-- ==== Sys2Proof/Machine/BusAccess.lean ====
section
/-! DEFINITION. The access unit: selection and handover (R33 to R35, R39), the answer window (R40 to R44), and the outcomes
of transmissions (R36). -/

namespace Sys2Proof.Machine

/-! ### Selection (R35, R39) -/

/-- A deferral applies to an entry (R39). -/
def State.deferred (s : State) (e : QEntry) : Bool :=
  if e.isClaim || e.isJoin || e.isEvict then s.access.window.isOpen
  else if e.isPresence then s.access.ownWindow
  else false

/-- The oldest eligible entry of a class, a REFUSE(OVERLAP) before every other (R35). -/
def State.oldestOf (s : State) (cls : Nat) : Option QEntry :=
  let eligible := s.access.queue.filter fun e => e.cls == cls && !s.deferred e
  match eligible.find? QEntry.isOverlap with
  | some e => some e
  | none => eligible.head?

/-- The entry the selection rule chooses (R35). -/
def State.selected (s : State) : Option QEntry :=
  [0, 1, 2, 3].findSome? s.oldestOf

/-! ### Handover (R33, R34, R23) -/

/-- The line unit accepts a frame: the transmission starts, its burst record opens and the phase is TRANSMITTING
(R23, R29, R33). -/
def State.transmit (s : State) (e : QEntry) (f : Frame) : State :=
  let s1 := s.setLine
    { s.line with rx := .char, lineTimer := Timer.start, crc := 0xFFFF#16,
                  txChars := f.chars s.straps.address,
                  burst := some { chars := [], count := 0, bad := false, own := true, mismatch := false } }
  s1.setAccess
    { s1.access with phase := .transmitting, busTimer := Timer.stopped, slot := none,
                     queue := s1.access.queue.erase e, inTx := some { entry := e, frame := f } }

/-- The PRESENCE fields of this instant (R96, R111). -/
def State.presenceFields (s : State) : Frame := .presence s.resv.held s.occupied s.motion.state

/-- An entry is handed over with its frame: the line unit accepts it in AWAIT, and in any other state refuses it and the
entry stays in the queue (R23, R33). -/
def State.handOver (s : State) (e : QEntry) (f : Frame) : State :=
  if s.line.rx = .await then s.transmit e f else s

/-- The handover at an instant of R33. A CLAIM that finds nothing to send leaves the queue and the selection is made
again; each round takes an entry out of the queue, so `fuel` rounds suffice. A CLAIM that is formed anew in a round takes
part in the rounds that follow (R34, R77, log 24). -/
def State.handoverLoop (s : State) : Nat → State
  | 0 => s
  | fuel + 1 =>
    match s.selected with
    | none => s
    | some e =>
      match e.payload with
      | .presence => s.handOver e s.presenceFields
      | .claim =>
        match s.claimPlan with
        | .send side range addressee =>
          let s1 := s.readNeedSide side
          if s1.line.rx = .await then (s1.transmit e (s1.claimFrame side range addressee)).claimSent side range addressee
          else s1
        | plan => (s.claimNotSent plan).handoverLoop fuel
      | .frame f =>
        if e.isJoin && s.line.rx == .await then (s.transmit e f).joinSent else s.handOver e f

/-- The rounds of a handover that can be needed (log 24). -/
def handoverRounds : Nat := 8

/-- The handover; none while the station is DORMANT or EVICTED (R33). -/
def State.handover (s : State) : State :=
  match s.memb.state with
  | .dormant | .evicted => s
  | .listening | .joining | .joined | .detached => s.handoverLoop handoverRounds

/-- In QUIET an eligible entry is handed over at the instant there is one (R33, log 23). -/
def State.kick (s : State) : State := if s.access.phase = .quiet then s.handover else s

/-! ### The answer window (R40 to R44) -/

/-- The close of a window is reported to the directory, the reservation unit and the membership unit (R41, R42). -/
def State.reportClose (s : State) (originator : Addr) (kind : WindowKind) (cause : CloseCause) : State :=
  match kind with
  | .claim => if originator = s.straps.address then s.concludeClaim (cause != .complete) else s
  | .join => if originator = s.straps.address then s.concludeJoin (cause != .complete) else s
  | .evict =>
    let s1 := s.dirResolve cause
    let s2 := if originator = s.straps.address then s1.concludeEvict cause else s1
    s2.resolveTarget cause

/-- The queued answers bound to a window are removed (R43). -/
def withdrawAnswers (q : List QEntry) (w : WindowId) : List QEntry := q.filter fun e => e.answers != some w

/-- The open window closes with a cause (R41 to R44). -/
def State.closeWindow (s : State) (cause : CloseCause) : State :=
  let w := s.access.window
  match w.isOpen, w.originator, w.kind with
  | true, some o, some k =>
    let s1 := s.setAccess
      { s.access with window := { w with isOpen := false, unheard := [], cause := some cause },
                      queue := withdrawAnswers s.access.queue { originator := o, kind := k } }
    s1.reportClose o k cause
  | _, _, _ => s

/-- The unheard set of a new window: every address below N but the originator (R40). -/
def unheardOf (n : Nat) (originator : Addr) : List Addr :=
  allAddrs.filter fun a => decide (a.val < n) && a != originator

/-- A window opens (R40). -/
def State.openWindow (s : State) (originator : Addr) (kind : WindowKind) : State :=
  s.setAccess { s.access with window :=
    { isOpen := true, originator := some originator, kind := some kind, unheard := unheardOf s.port.cfg.n originator,
      cause := none } }

/-- The station answers a superseding frame with REFUSE(OVERLAP) (R44). -/
def State.answersOverlap (s : State) : Bool := s.memb.state == .joining || s.memb.state == .joined

/-- A window-opening frame: opens the window, or supersedes the open one, a peer's frame being answered with
REFUSE(OVERLAP) (R40, R44). -/
def State.windowFrame (s : State) (sender : Addr) (own : Bool) (kind : WindowKind) (tag : Tag) : State :=
  if s.access.window.isOpen then
    let s1 := s.closeWindow .superseded
    let s2 :=
      if !own && s1.answersOverlap then
        s1.offer (answerEntry (.refuse sender tag .overlap) { originator := sender, kind := kind })
      else s1
    s2.openWindow sender kind
  else s.openWindow sender kind

/-- A sender leaves the unheard set, and the window closes COMPLETE when it was the last (R41). -/
def State.heard (s : State) (a : Addr) : State :=
  let w := s.access.window
  if w.isOpen && w.unheard.contains a then
    let left := w.unheard.filter fun x => x != a
    let s1 := s.setAccess { s.access with window := { w with unheard := left } }
    if left.isEmpty then s1.closeWindow .complete else s1
  else s

/-! ### Outcomes of transmissions (R36) -/

/-- The frame in transmission was sent, and its owner acts on it (R36, R112, R114, R115). -/
def State.txSent (s : State) (f : Option Frame) : State :=
  let s1 := s.setAccess { s.access with inTx := none }
  match f with
  | some (.presence _ _ _) => s1.presenceSent
  | some (.evict _) =>
    match s1.memb.evict with
    | some r => s1.setMemb { s1.memb with evict := some { r with waiting := true, aliveHeard := false } }
    | none => s1
  | some (.refuse _ _ .alive) =>
    match s1.memb.target with
    | some r => s1.setMemb { s1.memb with target := some { r with sent := true } }
    | none => s1
  | _ => s1

/-- The frame in transmission was lost, and its owner acts on it (R36, R80, R103, R112, R114). -/
def State.txLost (s : State) : State :=
  let s1 := s.setAccess { s.access with inTx := none }
  match s.access.inTx with
  | none => s1
  | some t =>
    match t.frame with
    | .claim _ _ _ _ _ => s1.concludeClaim true
    | .join _ _ => s1.concludeJoin true
    | .evict _ => s1.evictInconclusive
    | .presence _ _ _ => s1.offer presenceEntry
    | .grant _ _ _ | .refuse _ _ _ | .release _ | .recall _ _ _ => s1

/-- At each delivery the units offer again what is waiting without a queue entry: a QUEUED claim, a QUEUED join, a
PRESENCE that is due and not in transmission (R74, R102, R111). -/
def State.reoffer (s : State) : State :=
  let s1 : State :=
    match s.resv.claim with
    | some r => if r.phase = .queued ∧ s.access.queue.any QEntry.isClaim = false then s.offer claimEntry else s
    | none => s
  let s2 : State :=
    match s1.memb.join with
    | some r =>
      if r.phase = .queued ∧ s1.access.queue.any QEntry.isJoin = false then s1.offer (joinEntry r.attempt r.occupied)
      else s1
    | none => s1
  let sending := match s2.access.inTx with | some t => t.entry.isPresence | none => false
  if s2.memb.presenceDue && !sending then s2.offer presenceEntry else s2

end Sys2Proof.Machine
end

