-- ==== Sys2Proof/Machine/Delivery.lean ====
section
/-! DEFINITION. The line unit: characters, bursts and their judgement (R15 to R22, R24), and what a delivery does (R25, R27,
R31, R40 to R42, R50). -/

namespace Sys2Proof.Machine

/-! ### Characters (R15 to R20, R24) -/

/-- A start bit is confirmed in AWAIT: a burst record opens, and activity ends the count of the access unit
(R16, R17, R20, R29). -/
def State.startBurst (s : State) : State :=
  let s1 := s.setLine
    { s.line with rx := .char, lineTimer := Timer.start, crc := 0xFFFF#16,
                  burst := some { chars := [], count := 0, bad := false, own := false, mismatch := false } }
  match s1.access.phase with
  | .unsynced | .settle | .slotting | .quiet =>
    s1.setAccess { s1.access with phase := .receiving, busTimer := Timer.stopped, slot := none }
  | .receiving | .transmitting => s1

/-- This station is sending a character of its own in the burst. -/
def State.sending (s : State) : Bool :=
  match s.line.burst with
  | some b => b.own && !s.line.txChars.isEmpty
  | none => false

/-- A start bit confirmed in GAP continues the burst (R16). In an own transmission the start bit followed the stop bit before
it with no idle time, so the character under way keeps the time that has run since (R23). -/
def State.startChar (s : State) : State :=
  if s.line.rx = .gap then
    s.setLine { s.line with rx := .char, lineTimer := if s.sending then s.line.lineTimer else Timer.start }
  else s

/-- A character put in a burst record (R15, R17, R19). -/
def Burst.receive (b : Burst) (data : Byte) (parity stop : Bool) (misread : Bool) : Burst :=
  { b with
    chars := if b.chars.length < frameBufferSize then b.chars ++ [data] else b.chars
    count := b.count + 1
    bad := b.bad || parity != parityBit data || !stop
    mismatch := b.mismatch || misread }

/-- The character read back differs from the one being sent (R24). -/
def misreads (sending : List Byte) (data : Byte) (parity stop : Bool) : Bool :=
  match sending with
  | [] => false
  | c :: _ => data != c || parity != parityBit c || !stop

/-- The stop-bit sample completes the character under way: it is counted, stored, checked and read back, and the receiver
passes to GAP, or to LOW on a framing error (R15, R16, R19, R20, R24). -/
def State.completeChar (s : State) (data : Byte) (parity stop : Bool) : State :=
  match s.line.burst with
  | none => s
  | some b =>
    let misread := b.own && misreads s.line.txChars data parity stop
    s.setLine
      { s.line with
        rx := if stop then .gap else .low
        lineTimer := if stop then Timer.start else s.line.lineTimer
        burst := some (b.receive data parity stop misread)
        crc := if b.chars.length < frameBufferSize then crcByte s.line.crc data else s.line.crc
        txChars := if misread then [] else s.line.txChars.tail }

/-- The whole of a character: its start bit, the rest of its character time, its stop bit (R15, log 12). -/
def State.receiveChar (s : State) (data : Byte) (parity stop : Bool) : State :=
  let s1 := s.startChar
  let s2 := s1.advance (s1.line.lineTimer.remaining s1.c)
  s2.completeChar data parity stop

/-- Characters without error, one after another. -/
def State.receiveChars (s : State) (chars : List Byte) : State :=
  chars.foldl (fun t c => t.receiveChar c (parityBit c) true) s

/-! ### The judgement (R19, R21, R22) -/

/-- What a burst is judged to be (R21, R22). -/
inductive Judgement where
  | corrupted
  /-- a valid frame; `content` is none for kind UNDEFINED -/
  | valid (sender : Addr) (own : Bool) (content : Option Frame)
deriving DecidableEq, Repr

/-- The burst has the length of its kind: neither TRUNCATED nor OVERRUN (R19). -/
def lengthFits (code count : Nat) : Bool :=
  match kindLength code with
  | some n => count == n
  | none => 3 ≤ count && count ≤ 8

/-- The judgement of a burst record whose burst has ended (R21, R22). -/
def judgeBurst (c : Config) (own : Addr) (b : Burst) (crc : BitVec 16) : Judgement :=
  match b.chars with
  | [] => .corrupted
  | c0 :: rest =>
    let code := (highNibble c0).toNat
    let sender := nibFin (lowNibble c0)
    if b.bad || !lengthFits code b.count || crc != 0x0000#16 || decide (c.n ≤ sender.val) ||
        (sender == own && !b.own) || (b.own && b.mismatch) then .corrupted
    else .valid sender b.own (parseFrame c.n c.z sender code (rest.take (b.count - 3)))

/-- The judgement of the burst that ends now; none unless the receiver is in GAP with a burst record (R17, R21). -/
def State.judgement (s : State) : Option Judgement :=
  match s.line.rx, s.line.burst with
  | .gap, some b => some (judgeBurst s.port.cfg s.straps.address b s.line.crc)
  | _, _ => none

/-! ### The end of a burst (R17, log 8) -/

/-- The gap exceeds 1 C (R17, log 11). -/
def State.endGap (s : State) : State := s.advance (s.line.lineTimer.remaining s.c)

/-- The end of the burst that brings the characters of a whole frame: the characters not yet received follow, then the
gap. None where no burst can end (R16, log 8). -/
def State.burstEnd (s : State) (chars : List Byte) : Option State :=
  match s.line.rx, s.line.burst with
  | .await, _ => some (s.startBurst.receiveChars chars).endGap
  | .char, some b => some (s.receiveChars (chars.drop b.count)).endGap
  | .gap, some b => some (s.receiveChars (chars.drop b.count)).endGap
  | _, _ => none

/-- The character under way, or the next of an own transmission, is spoiled. It runs through its stop bit and is counted.
A character that this station is sending is spoiled by a mismatch, which sets that flag and ends the transmission; another
one is received in error, which marks the burst bad (R15, R24). No value is stored for it and none is fed to the CRC
(log 9). -/
def State.spoilChar (s : State) : State :=
  let s1 := s.startChar
  let s2 := s1.advance (s1.line.lineTimer.remaining s1.c)
  match s2.line.burst with
  | none => s2
  | some b =>
    s2.setLine
      { s2.line with
        rx := .gap, lineTimer := Timer.start, txChars := []
        burst := some { b with
          count := b.count + 1, bad := b.bad || !s.sending, mismatch := b.mismatch || s.sending } }

/-- The end of a burst that is to be judged corrupted; none where no burst can end. In GAP the burst ends as it stands,
but for an own transmission in progress, which only a mismatch ends before its last character (R16, R24, log 9). -/
def State.burstEndBad (s : State) : Option State :=
  match s.line.rx, s.line.burst with
  | .await, _ => some s.startBurst.spoilChar.endGap
  | .char, some _ => some s.spoilChar.endGap
  | .gap, some _ => some (if s.sending then s.spoilChar.endGap else s.endGap)
  | _, _ => none

/-! ### Deliveries (R25, R27, R31, R40 to R42, R50) -/

/-- A delivery reaches the access unit: the receiver waits for the next burst, the count starts from the frame end, and
the rotation base is set (R17, R29, R31). -/
def State.takeDelivery (s : State) (base : Addr) : State :=
  let s1 := s.setAccess
    { s.access with phase := .settle, busTimer := { running := true, value := s.line.lineTimer.value },
                    base := some base, slot := none }
  s1.setLine { s1.line with rx := .await, lineTimer := Timer.stopped, txChars := [] }

/-- The kind of window a frame opens, with the tag a REFUSE(OVERLAP) to it carries (R40, R44). -/
def opensWindow : Frame → Option (WindowKind × Tag)
  | .claim _ tag _ _ _ => some (.claim, tag)
  | .join _ _ => some (.join, 0)
  | .evict _ => some (.evict, 0)
  | .presence _ _ _ => none
  | .grant _ _ _ => none
  | .refuse _ _ _ => none
  | .release _ => none
  | .recall _ _ _ => none

/-- The unit a frame's kind concerns takes it, after the directory; `answered` marks a frame answered with
REFUSE(OVERLAP) (R40, R44, R50, R81, R89, R104, R105, R114, R115). -/
def State.unitTake (s : State) (sender : Addr) (own : Bool) (answered : Bool) (f : Option Frame) : State :=
  match f with
  | some (.claim addressee tag side unopposed range) =>
    if own || answered then s else s.answerClaim sender addressee tag side unopposed range
  | some (.grant claimant tag range) => s.claimGrant sender claimant tag range
  | some (.refuse refused tag reason) =>
    ((s.claimRefuse sender refused tag reason).joinRefuse sender refused tag reason).evictRefuse sender refused tag reason
  | some (.join _ j) => if own then s else s.answerJoin sender j answered
  | some (.recall joiner side bound) => s.joinRecall sender joiner side bound
  | some (.evict target) => if !own && target == s.straps.address then s.targeted sender answered else s
  | some (.presence _ _ _) => s
  | some (.release _) => s
  | none => s

/-- The window part of a valid frame (R40, R44). -/
def State.windowTake (s : State) (sender : Addr) (own : Bool) (f : Option Frame) : State :=
  match f with
  | none => s
  | some fr =>
    match opensWindow fr with
    | none => s
    | some (kind, tag) => s.windowFrame sender own kind tag

/-- A peer's window-opening frame finds a window open and is marked as answered (R44). -/
def State.marksAnswered (s : State) (own : Bool) (f : Option Frame) : Bool :=
  match f with
  | none => false
  | some fr => s.access.window.isOpen && !own && (opensWindow fr).isSome

/-- The delivery of a valid frame, in the order of R31, R36, R40, R50 and R41. -/
def State.deliverValid (s : State) (sender : Addr) (own : Bool) (f : Option Frame) : State :=
  let s1 := (s.takeDelivery sender).reoffer
  let s2 := if own then s1.txSent f else s1
  let answered := s2.marksAnswered own f
  let s3 := s2.windowTake sender own f
  let s4 := s3.dirTake sender f
  let s5 := s4.unitTake sender own answered f
  s5.heard sender

/-- The corrupted-frame count goes up, to 255 at most (R27). -/
def LineUnit.countCorrupted (l : LineUnit) : LineUnit :=
  { l with corrupted := if l.corrupted < 255 then l.corrupted + 1 else 255 }

/-- The burst that ends is this station's own. -/
def State.ownBurst (s : State) : Bool :=
  match s.line.burst with
  | some b => b.own
  | none => false

/-- The delivery of a corrupted frame (R25, R27, R31, R36, R42). -/
def State.deliverCorrupted (s : State) : State :=
  let own := s.ownBurst
  let s1 := s.setLine s.line.countCorrupted
  let s2 := (s1.takeDelivery (Fin.ofNat 16 (s.port.cfg.n - 1))).reoffer
  let s3 := if own then s2.txLost else s2
  s3.closeWindow .cut

/-- A burst ends and is judged a given valid frame: it is delivered. Where the burst is not judged so, the event does not
occur and nothing changes (log 1, log 8). -/
def State.onFrame (s : State) (sender : Addr) (f : Frame) (zone : Byte) : State :=
  match (s.withZone zone).burstEnd (f.chars sender) with
  | none => s
  | some s1 =>
    match s1.judgement with
    | some (.valid sender' own content) =>
      if sender' = sender ∧ content = some f then s1.deliverValid sender own content else s
    | some .corrupted => s
    | none => s

end Sys2Proof.Machine
end

