-- ==== Sys2Proof/Machine/ResetOps.lean ====
section
/-! DEFINITION. What a reset does to the blocks and how it ends (R28, R46, R49, R67, R98, R117, R148, R149, R162, R165, R174 to
R177), and the data of a NOP response (R157), which the reset's pending response carries. -/

namespace Sys2Proof.Machine

/-- The data of a NOP response (R157, R183). -/
def State.nopData (s : State) : Data :=
  ⟨byte s.port.events.length, if s.faulted then 0x01#8 else 0x00#8, byte (memberCode s.memb.state), 0x00#8, 0x00#8⟩

/-- Every block takes its reset state; the configuration, the sampled straps, the reset-cause record, the pending
response, the record of the last transaction and what holds the part in reset are left to the reset's own rule (R26, R28, R46, R49, R67, R98, R117, R162,
R165). -/
def State.resetBlocks (s : State) : State :=
  { s with
    line := lineReset
    access := accessReset
    dir := dirReset
    resv := resvReset
    memb := membReset
    motion := motionReset
    port := { s.port with events := [] }
    fault := { s.fault with cause := none, further := false, intruders := [], powerOnTimer := Timer.stopped } }

/-- The end of a reset: the straps are sampled, the configuration is as given, the cause is recorded, the event queue
holds RESET_DONE alone and the pending response carries the NOP data (R148, R162, R177). -/
def State.endReset (s : State) (cfg : Config) (cause : ResetCause) (addr : Addr) (rate : RateCode) (seq : Byte) : State :=
  let s1 := s.resetBlocks
  let s2 : State :=
    { s1 with
      straps := { address := addr, rate := rate }
      port := { s1.port with cfg := cfg, events := [.resetDone cause] }
      fault := { s1.fault with resetCause := cause, phase := .running } }
  s2.setPort { s2.port with response := { seq := seq, status := .done, data := s2.nopData } }

/-- The configuration an ordered reset leaves (R149, R176). -/
def State.orderedConfig (s : State) : Config := if s.port.cfg.retain = 1 then s.port.cfg else Config.default

end Sys2Proof.Machine
end

