-- ==== Sys2Proof/Machine/PortOps.lean ====
section
/-! DEFINITION. The controller port's shared operation: taking the request of a full transaction (R144 to R148). -/

namespace Sys2Proof.Machine

/-- The pending response is shifted out in a transaction of some clock periods (R144, R145, R148, log 15). -/
def State.shiftOut (s : State) (clocks : Nat) : State :=
  s.setPort { s.port with shiftedOut := s.port.response.shifted clocks }

/-- The pending response is replaced (R147). -/
def State.respond (s : State) (seq : Byte) (status : Status) (data : Data) : State :=
  s.setPort { s.port with response := { seq := seq, status := status, data := data } }

/-- The request of a full transaction is taken (R146, R147). `act` applies the request's tests and carries out an accepted
request, and gives its status; `data` forms the data from the part before and after.
While a reset holds the part, chip select is not observed (R144, log 16). -/
def State.takeRequest (s : State) (kind : Byte) (r : Request) (act : State → State × Status)
    (data : State → State → Status → Data) : State :=
  if s.inReset then s
  else
    let s0 := s.shiftOut 64
    if checkHolds kind r then
      let done := act s0
      done.1.respond r.seq done.2 (data s0 done.1 done.2)
    else s0.respond r.seq .check Data.zero

/-- The data of a request whose response carries none (R183). -/
def noData (_before _after : State) (_status : Status) : Data := Data.zero

/-- The position group with the motion state, and two further bytes (R183). -/
def State.positionData (s : State) (d3 d4 : Byte) : Data :=
  let g := positionGroup s.motion.known (BitVec.ofNat 3 (modeCode s.motion.state)) s.motion.p
  ⟨g.1, g.2.1, g.2.2, d3, d4⟩

end Sys2Proof.Machine
end

