-- ==== Sys2Proof/Machine/Requests.lean ====
section
/-! DEFINITION. The meanings of the controller's requests (R131 to R133, R135, R149 to R159, R163, R171, R176). -/

namespace Sys2Proof.Machine

/-- The outcome type of every meaning. -/
abbrev Result := Host.Outcome State Fault Refusal

/-! ### NOP (R157) -/

/-- NOP: DONE, no effect (R157). -/
def execNop (r : Request) (s : State) : Result :=
  .next (s.takeRequest 0x00 r (fun s => (s, .done)) (fun s0 _ _ => s0.nopData))

/-! ### CONFIGURE (R149, R150) -/

/-- The value at a configuration index; none from 10 up (R149). -/
def configGet (c : Config) : Nat → Option Nat
  | 0 => some c.n
  | 1 => some c.z
  | 2 => some c.s
  | 3 => some c.w
  | 4 => some c.a
  | 5 => some c.stepPeriod
  | 6 => some c.p
  | 7 => some c.stallLimit
  | 8 => some c.t
  | 9 => some c.retain
  | _ => none

/-- The configuration with the value at an index replaced (R150). -/
def configPut (c : Config) (index value : Nat) : Config :=
  match index with
  | 0 => { c with n := value }
  | 1 => { c with z := value }
  | 2 => { c with s := value }
  | 3 => { c with w := value }
  | 4 => { c with a := value }
  | 5 => { c with stepPeriod := value }
  | 6 => { c with p := value }
  | 7 => { c with stallLimit := value }
  | 8 => { c with t := value }
  | 9 => { c with retain := value }
  | _ => c

/-- CONFIGURE's tests and effect (R150). -/
def configureAct (index value : Nat) (s : State) : State × Status :=
  if s.memb.state ≠ .dormant then (s, .state)
  else
    match configRange index with
    | none => (s, .range)
    | some (lo, hi) =>
      if lo ≤ value ∧ value ≤ hi then (s.setPort { s.port with cfg := configPut s.port.cfg index value }, .done)
      else (s, .range)

/-- CONFIGURE's data: the index and the value after the request (R150, R183). -/
def configureData (index : Byte) (_s0 s1 : State) (_status : Status) : Data :=
  match configGet s1.port.cfg index.toNat with
  | some v => ⟨index, (BitVec.ofNat 16 v).extractLsb' 8 8, (BitVec.ofNat 16 v).extractLsb' 0 8, 0x00#8, 0x00#8⟩
  | none => Data.zero

/-- CONFIGURE (R150). -/
def execConfigure (r : Request) (s : State) : Result :=
  .next (s.takeRequest 0x10 r (configureAct r.arg0.toNat r.value16) (configureData r.arg0))

/-! ### START (R99, R100, R151) -/

/-- The station leaves DORMANT: the listen period begins, the receiver enters SEEK, and the ages start from 0 (R16, R49,
R59, R99). -/
def State.leaveDormant (s : State) : State :=
  let s1 := s.setMemb { s.memb with state := .listening, listenTimer := Timer.start }
  let s2 := s1.setLine { s1.line with rx := .seek, lineTimer := Timer.start }
  s2.setDir { s2.dir with entries := mapEntries (fun a e => if s.isPeer a then { e with age := 0 } else e) s2.dir.entries }

/-- START's tests and effect (R151). -/
def startAct (s : State) : State × Status :=
  match s.memb.state with
  | .dormant =>
    if s.port.cfg.n ≤ s.straps.address.val ∨ s.port.cfg.z - 2 < s.port.cfg.w then (s, .config)
    else (s.leaveDormant, .done)
  | .detached => (((s.setMemb { s.memb with state := .joining }).beginAttempt 1).kick, .done)
  | .listening | .joining | .joined | .evicted => (s, .state)

/-- START's data (R151, R183). -/
def startData (_s0 s1 : State) (_status : Status) : Data :=
  ⟨byte s1.straps.address.val, byte s1.straps.rate.val, byte (memberCode s1.memb.state), 0x00#8, 0x00#8⟩

/-- START (R151). -/
def execStart (r : Request) (zone : Byte) (s : State) : Result :=
  .next ((s.withZone zone).takeRequest 0x11 r startAct startData)

/-! ### MOVE (R131, R132, R152) -/

/-- MOVE while MOVING or STALLED (R132). -/
def State.retarget (s : State) (t : Nat) : State × Status :=
  if t = s.motion.p then (((s.setMotion { s.motion with state := .idle }).endMove .arrived).kick, .done)
  else if s.motion.direction = some (if s.motion.p < t then Side.up else Side.down) then
    ((s.setMotion { s.motion with target := some t }).updateNeed.kick, .done)
  else (s, .busy)

/-- MOVE in IDLE (R131). -/
def State.beginMove (s : State) (t : Nat) : State :=
  if t = s.motion.p then s.endMove .arrived
  else
    (s.setMotion
      { s.motion with
        target := some t, direction := some (if s.motion.p < t then Side.up else Side.down), mismatch := 0,
        state := .moving, stepTimer := Timer.start }).updateNeed

/-- MOVE's tests and effect, in the order of R131. -/
def moveAct (t : Nat) (s : State) : State × Status :=
  if maxPosition s.port.cfg < t then (s, .range)
  else if s.memb.state ≠ .joined then (s, .state)
  else
    match s.motion.state with
    | .unplaced | .halted => (s, .state)
    | .relocating => (s, .busy)
    | .moving | .stalled => s.retarget t
    | .idle => ((s.beginMove t).kick, .done)

/-- The data of MOVE and STOP: the position group after the request (R152, R153, R183). -/
def positionAfter (_s0 s1 : State) (_status : Status) : Data := s1.positionData 0x00#8 0x00#8

/-- MOVE (R152). -/
def execMove (r : Request) (s : State) : Result :=
  .next (s.takeRequest 0x20 r (moveAct r.target20) positionAfter)

/-! ### STOP (R133, R153) -/

/-- STOP's effect (R133). -/
def stopAct (s : State) : State × Status :=
  match s.motion.state with
  | .moving | .stalled => (((s.setMotion { s.motion with state := .idle }).endMove .stopped).kick, .done)
  | .relocating => ((s.endRelocate .stopped .unplaced).kick, .done)
  | .idle | .unplaced | .halted => (s, .done)

/-- STOP (R133). -/
def execStop (r : Request) (s : State) : Result :=
  .next (s.takeRequest 0x21 r stopAct positionAfter)

/-! ### RELOCATE (R135, R136, R153) -/

/-- A relocate begins from zone k: the record, RELOCATING, and the choice of direction (R135, R136). -/
def State.beginRelocate (s : State) (k : Nat) : State :=
  let r : RelocRecord := { k := k, side := .down, phase := .claiming, downTried := false, steps := 0 }
  (s.setMotion { s.motion with state := .relocating, reloc := some r }).chooseDirection r

/-- RELOCATE's tests and effect (R135). -/
def relocateAct (s : State) : State × Status :=
  if s.memb.state ≠ .joined then (s, .state)
  else
    match s.motion.state with
    | .idle | .halted => (s, .state)
    | .moving | .stalled | .relocating => (s, .busy)
    | .unplaced =>
      match s.reading with
      | none => (s, .state)
      | some k => ((s.beginRelocate k).kick, .done)

/-- RELOCATE's data: the position group after the request, and the zone read or 255 (R153, R183). -/
def relocateData (s0 s1 : State) (status : Status) : Data :=
  s1.positionData
    (match status, s0.reading with
      | .done, some k => byte k
      | _, _ => 0xFF#8) 0x00#8

/-- RELOCATE (R135). -/
def execRelocate (r : Request) (zone : Byte) (s : State) : Result :=
  .next ((s.withZone zone).takeRequest 0x22 r relocateAct relocateData)

/-! ### EVICT (R113, R154) -/

/-- An eviction is ordered: the record and the EVICT frame, or its failure where the queue takes none (R113). -/
def State.orderEviction (s : State) (target : Addr) : State :=
  let s1 := s.setMemb { s.memb with evict := some { target := target, waiting := false, aliveHeard := false } }
  if s1.offerResult (evictEntry target) = .notQueued then s1.evictInconclusive else s1.offer (evictEntry target)

/-- EVICT's tests, in the order of R113, and effect. -/
def evictAct (address : Nat) (s : State) : State × Status :=
  if s.port.cfg.n ≤ address ∨ address = s.straps.address.val then (s, .range)
  else if s.memb.state ≠ .joined then (s, .state)
  else if (s.entry (Fin.ofNat 16 address)).state ≠ .silent then (s, .state)
  else if s.memb.evict.isSome then (s, .busy)
  else ((s.orderEviction (Fin.ofNat 16 address)).kick, .done)

/-- EVICT's data: the address and the entry's state after the request (R154, R183). -/
def evictData (address : Byte) (_s0 s1 : State) (status : Status) : Data :=
  ⟨address, if status = .range then 0x00#8 else byte (peerCode (s1.entry (Fin.ofNat 16 address.toNat)).state),
    0x00#8, 0x00#8, 0x00#8⟩

/-- EVICT (R113). -/
def execEvict (r : Request) (s : State) : Result :=
  .next (s.takeRequest 0x30 r (evictAct r.arg0.toNat) (evictData r.arg0))

/-! ### CLEAR_FAULT (R143, R155, R171) -/

/-- The engine is released from HALTED (R143). -/
def State.releaseHalt (s : State) : State :=
  if s.motion.state = .halted then
    if s.motion.known then ((s.setMotion { s.motion with state := .idle, mismatch := 0 }).trim).updateNeed
    else (s.setMotion { s.motion with state := .unplaced, mismatch := 0 }).updateNeed
  else s

/-- CLEAR_FAULT's test and effect (R155, R171). -/
def clearFaultAct (s : State) : State × Status :=
  match s.fault.cause with
  | none => (s, .state)
  | some .evicted => (s, .state)
  | some .tracking | some .relocateLimit | some .intrusion =>
    ((s.setFault { s.fault with cause := none, further := false, intruders := [] }).releaseHalt.kick, .done)

/-- CLEAR_FAULT's data: the latch before, the motion state after (R155, R183). -/
def clearFaultData (s0 s1 : State) (_status : Status) : Data :=
  ⟨byte (latchCode s0.fault.cause), if s0.fault.further then 0x01#8 else 0x00#8, byte (modeCode s1.motion.state),
    0x00#8, 0x00#8⟩

/-- CLEAR_FAULT (R171). -/
def execClearFault (r : Request) (s : State) : Result :=
  .next (s.takeRequest 0x31 r clearFaultAct clearFaultData)

/-! ### RESET_STATION (R148, R156, R176) -/

/-- RESET_STATION: an ordered reset at the instant the request is taken; a bad check leaves the part unreset (R176). -/
def execResetStation (r : Request) (addr : Addr) (rate : RateCode) (s : State) : Result :=
  .next
    (if s.inReset then s
    else if checkHolds 0x3F r then (s.shiftOut 64).endReset s.orderedConfig .ordered addr rate r.seq
    else (s.shiftOut 64).respond r.seq .check Data.zero)

/-! ### READ_STATUS (R27, R158) -/

/-- READ_STATUS's test and effect: part 0 sets the corrupted-frame count to 0 (R27, R158). -/
def readStatusAct (part : Nat) (s : State) : State × Status :=
  match part with
  | 0 => (s.setLine { s.line with corrupted := 0 }, .done)
  | 1 => (s, .done)
  | _ => (s, .range)

/-- READ_STATUS's data (R158, R183). -/
def readStatusData (part : Nat) (s0 _s1 : State) (_status : Status) : Data :=
  match part with
  | 0 =>
    ⟨nibbles (nib (memberCode s0.memb.state)) (nib (modeCode s0.motion.state)),
      (bit1 s0.motion.known ++ bit1 s0.fault.further ++ BitVec.ofNat 2 (resetCauseCode s0.fault.resetCause) ++ 0#1 ++
        BitVec.ofNat 3 (latchCode s0.fault.cause) : BitVec 8),
      byte s0.line.corrupted,
      (BitVec.ofNat 2 (claimPhaseCode s0.resv.claim) ++ 0#1 ++ BitVec.ofNat 5 s0.port.events.length : BitVec 8), 0x00#8⟩
  | 1 =>
    let g := positionGroup s0.motion.known 0#3 s0.motion.p
    ⟨g.1, g.2.1, g.2.2, s0.resv.held.loByte, s0.resv.held.hiByte⟩
  | _ => Data.zero

/-- READ_STATUS (R158). -/
def execReadStatus (r : Request) (s : State) : Result :=
  .next (s.takeRequest 0x40 r (readStatusAct r.arg0.toNat) (readStatusData r.arg0.toNat))

/-! ### READ_PEER (R66, R159) -/

/-- READ_PEER's tests (R159). -/
def readPeerAct (address part : Nat) (s : State) : State × Status :=
  if s.port.cfg.n ≤ address ∨ address = s.straps.address.val then (s, .range)
  else if 1 < part then (s, .range)
  else (s, .done)

/-- An age in whole multiples of P, at most 255 (R66). -/
def State.ageInP (s : State) (age : Nat) : Nat := min 255 (age / s.presenceInterval)

/-- READ_PEER's data (R159, R183). -/
def readPeerData (address part : Nat) (s0 _s1 : State) (status : Status) : Data :=
  if status = .done then
    let e := s0.entry (Fin.ofNat 16 address)
    let r := if part = 0 then e.held else e.occupied
    ⟨nibbles (nib (peerCode e.state)) (nib (modeCode e.mode)), byte (s0.ageInP e.age), r.loByte, r.hiByte, 0x00#8⟩
  else Data.zero

/-- READ_PEER (R159). -/
def execReadPeer (r : Request) (s : State) : Result :=
  .next (s.takeRequest 0x41 r (readPeerAct r.arg0.toNat r.arg1.toNat) (readPeerData r.arg0.toNat r.arg1.toNat))

/-! ### TAKE_EVENT (R163, R184) -/

/-- TAKE_EVENT's effect: the oldest record is removed (R163). -/
def takeEventAct (s : State) : State × Status :=
  (s.setPort { s.port with events := s.port.events.tail }, .done)

/-- TAKE_EVENT's data: the record removed, or NONE, and the number left (R163, R184). -/
def takeEventData (s0 s1 : State) (_status : Status) : Data :=
  match s0.port.events with
  | [] => noneData s1.port.events.length
  | e :: _ => e.data s1.port.events.length

/-- TAKE_EVENT (R163). -/
def execTakeEvent (r : Request) (s : State) : Result :=
  .next (s.takeRequest 0x42 r takeEventAct takeEventData)

/-! ### A kind that names no request, and a transaction that is not full (R145, R147) -/

/-- UNKNOWN_REQUEST: UNKNOWN with data 0, no effect (R147). A kind byte of a request of the table is not this event. -/
def execUnknownRequest (kind : Byte) (r : Request) (s : State) : Result :=
  .next (if requestKinds.contains kind then s else s.takeRequest kind r (fun s => (s, .unknown)) noData)

/-- CUT_TRANSACTION: the transaction is discarded and the pending response stays (R145). A transaction of 64 periods is
not this event. -/
def execCutTransaction (clocks : Nat) (s : State) : Result :=
  .next (if s.inReset || clocks == 64 then s else s.shiftOut clocks)

end Sys2Proof.Machine
end

