-- ==== Sys2Proof/Machine/Resets.lean ====
section
/-! DEFINITION. The meanings of the resets from the supply and from RESET_N (R174, R175). -/

namespace Sys2Proof.Machine

/-- POWER_ON_RESET: the supply leaves its operating range and a power-on reset begins; every block is held in its reset
state. The power-on time does not run while the supply is out of range (R174, R185). A RESET_N that is held stays held
(log 17). -/
def execPowerOnReset (s : State) : Result :=
  let held := match s.fault.phase with
    | .pin => true
    | .powerOn pinHeld _ => pinHeld
    | .running => false
  let s1 := s.resetBlocks
  .next (s1.setFault { s1.fault with phase := .powerOn held false })

/-- The supply enters its operating range, and the power-on time runs from that instant (R185). -/
def State.supplyEntersRange (s : State) : State := s.setFault { s.fault with powerOnTimer := Timer.start }

/-- POWER_ON_TIME_EXPIRY: the power-on time runs out with the supply in range. The table has no row for the entry into the
range, so this command takes it in, with the whole power-on time after it (log 17). The reset ends, or waits for RESET_N
where that is held (R174, R185). -/
def execPowerOnTimeExpiry (addr : Addr) (rate : RateCode) (s : State) : Result :=
  .next
    (match s.fault.phase with
    | .powerOn pinHeld false =>
      let s1 := s.supplyEntersRange.advance powerOnTime
      if pinHeld then s1.setFault { s1.fault with phase := .powerOn true true, powerOnTimer := Timer.stopped }
      else s1.endReset Config.default .powerOn addr rate 0x00#8
    | .powerOn _ true | .pin | .running => s)

/-- PIN_RESET: an assertion of RESET_N that is not filtered out holds the part in reset; within a power-on reset it is part
of that reset (R174, R175). -/
def execPinReset (s : State) : Result :=
  .next
    (match s.fault.phase with
    | .running =>
      let s1 := s.resetBlocks
      s1.setFault { s1.fault with phase := .pin }
    | .powerOn _ timeRun => s.setFault { s.fault with phase := .powerOn true timeRun }
    | .pin => s)

/-- PIN_RESET_RELEASE: the pin reset ends; a power-on reset that the pin alone extends ends as POWER_ON (R174, R175). -/
def execPinResetRelease (addr : Addr) (rate : RateCode) (s : State) : Result :=
  .next
    (match s.fault.phase with
    | .pin => s.endReset Config.default .pin addr rate 0x00#8
    | .powerOn true true => s.endReset Config.default .powerOn addr rate 0x00#8
    | .powerOn true false => s.setFault { s.fault with phase := .powerOn false false }
    | .powerOn false _ | .running => s)

end Sys2Proof.Machine
end

