-- ==== Sys2Proof/Machine/LineEvents.lean ====
section
/-! DEFINITION. The meanings of the events on the bus line within a burst and before one (R15 to R18, R24). -/

namespace Sys2Proof.Machine

/-- ACTIVITY: a start bit is confirmed. In AWAIT a burst opens and activity is reported; in GAP the burst goes on; in SEEK
the recessive timing waits for the line to return (R16, R17, R23, R29, log 12). The first start bit of an own transmission
finds the receiver in CHAR already (log 10). -/
def execActivity (s : State) : Result :=
  .next
    (match s.line.rx with
    | .await => s.startBurst
    | .gap => s.startChar
    | .seek => s.setLine { s.line with lineTimer := Timer.stopped }
    | .off | .char | .low => s)

/-- LINE_IDLE: the line has been recessive for more than 1 C in SEEK; the receiver enters AWAIT, and the access unit
counts from the instant the line went recessive (R16, R30). -/
def execLineIdle (s : State) : Result :=
  .next
    (if s.line.rx = .seek then
      let s1 := s.advance (s.line.lineTimer.remaining s.c)
      let since := max s.c s1.line.lineTimer.value
      let s2 := s1.setLine { s1.line with rx := .await, lineTimer := Timer.stopped }
      if s2.access.phase = .unsynced then
        s2.setAccess { s2.access with busTimer := { running := true, value := since } }
      else s2
    else s)

/-- BREAK: in LOW the dominant interval exceeds 2 C, and the burst is bad (R18). -/
def execLineBreak (s : State) : Result :=
  .next
    (match s.line.rx, s.line.burst with
    | .low, some b =>
      let s1 := s.advance (s.line.lineTimer.remaining (2 * s.c))
      s1.setLine { s1.line with burst := some { b with bad := true } }
    | _, _ => s)

/-- CHARACTER_RECEIVED: the stop-bit sample completes a character of a burst (R15, R16, R19, R20, R24). -/
def execCharacterReceived (data : Byte) (parity stop : Bool) (s : State) : Result :=
  .next
    (match s.line.rx with
    | .char | .gap => s.receiveChar data parity stop
    | .off | .seek | .await | .low => s)

/-- LINE_RETURNS_RECESSIVE: in LOW the receiver passes to GAP, timed from this instant; in SEEK the recessive timing
starts again (R16, R18). -/
def execLineReturnsRecessive (s : State) : Result :=
  .next
    (match s.line.rx with
    | .low => s.setLine { s.line with rx := .gap, lineTimer := Timer.start }
    | .seek => s.setLine { s.line with lineTimer := Timer.start }
    | .off | .await | .char | .gap => s)

/-- READBACK_MISMATCH: a bit sent is sampled unequal; the mismatch flag is set and only the character under way is still
sent, without the CRC (R24). -/
def execReadbackMismatch (s : State) : Result :=
  .next
    (match s.line.burst with
    | some b =>
      if b.own && !s.line.txChars.isEmpty then
        s.setLine { s.line with burst := some { b with mismatch := true }, txChars := s.line.txChars.take 1 }
      else s
    | none => s)

end Sys2Proof.Machine
end

