-- ==== Sys2Proof/Machine/Frames.lean ====
section
/-! DEFINITION. The meanings of the ends of bursts: one for each kind a burst can be judged to be (R21, R22, R25). -/

namespace Sys2Proof.Machine

/-- PRESENCE_FRAME (R51). -/
def execPresenceFrame (sender : Addr) (held occupied : ZRange) (mode : MotionState) (zone : Byte) (s : State) : Result :=
  .next (s.onFrame sender (.presence held occupied mode) zone)

/-- CLAIM_FRAME (R89). The addressee of an unopposed CLAIM is read as 0 (R181). -/
def execClaimFrame (sender addressee : Addr) (tag : Tag) (side : Side) (unopposed : Bool) (range : ZRange) (zone : Byte)
    (s : State) : Result :=
  .next (s.onFrame sender (.claim (if unopposed then 0 else addressee) tag side unopposed range) zone)

/-- GRANT_FRAME (R54). -/
def execGrantFrame (sender claimant : Addr) (tag : Tag) (range : ZRange) (zone : Byte) (s : State) : Result :=
  .next (s.onFrame sender (.grant claimant tag range) zone)

/-- REFUSE_FRAME (R81). -/
def execRefuseFrame (sender answered : Addr) (tag : Tag) (reason : RefuseReason) (zone : Byte) (s : State) : Result :=
  .next (s.onFrame sender (.refuse answered tag reason) zone)

/-- RELEASE_FRAME (R55). -/
def execReleaseFrame (sender : Addr) (range : ZRange) (zone : Byte) (s : State) : Result :=
  .next (s.onFrame sender (.release range) zone)

/-- JOIN_FRAME (R56). -/
def execJoinFrame (sender : Addr) (attempt : Nat) (occupied : ZRange) (zone : Byte) (s : State) : Result :=
  .next (s.onFrame sender (.join attempt occupied) zone)

/-- RECALL_FRAME (R104). -/
def execRecallFrame (sender joiner : Addr) (side : Side) (bound : Nat) (zone : Byte) (s : State) : Result :=
  .next (s.onFrame sender (.recall joiner side bound) zone)

/-- EVICT_FRAME (R58). -/
def execEvictFrame (sender target : Addr) (zone : Byte) (s : State) : Result :=
  .next (s.onFrame sender (.evict target) zone)

/-- UNDEFINED_FRAME: a valid frame of undefined kind, or one that fails the content check (R22). -/
def execUndefinedFrame (chars : List Byte) (zone : Byte) (s : State) : Result :=
  .next
    (match (s.withZone zone).burstEnd (withCrc chars) with
    | none => s
    | some s1 =>
      match s1.judgement with
      | some (.valid sender own none) => s1.deliverValid sender own none
      | some (.valid _ _ (some _)) => s
      | some .corrupted => s
      | none => s)

/-- CORRUPTED_FRAME (R42). -/
def execCorruptedFrame (zone : Byte) (s : State) : Result :=
  .next
    (match (s.withZone zone).burstEndBad with
    | none => s
    | some s1 =>
      match s1.judgement with
      | some .corrupted => s1.deliverCorrupted
      | some (.valid _ _ _) => s
      | none => s)

end Sys2Proof.Machine
end

