-- ==== Sys2Proof/Machine/Timing.lean ====
section
/-! DEFINITION. The meanings of the bus timing and of the timers of the directory, the reservation unit and the membership
unit (R30 to R32, R59, R75, R99, R102, R111). -/

namespace Sys2Proof.Machine

/-! ### Slots (R31, R32) -/

/-- The owner of slot k of the rotation from a base (R32). -/
def slotOwner (n : Nat) (base : Addr) (k : Nat) : Nat := (base.val + 1 + k) % n

/-- A slot is offered to its owner: this station hands over if it is the owner (R32, R33). -/
def State.offerSlot (s : State) (base : Addr) (k : Nat) : State :=
  if slotOwner s.port.cfg.n base k = s.straps.address.val then s.handover else s

/-- SETTLE_END: the frame end plus 2 C is reached; SLOTTING begins and slot 0 is offered (R31, R32). -/
def execSettleEnd (s : State) : Result :=
  .next
    (match s.access.phase, s.access.base with
    | .settle, some base =>
      let s1 := s.advance (s.access.busTimer.remaining (2 * s.c))
      (s1.setAccess { s1.access with phase := .slotting, slot := some 0 }).offerSlot base 0
    | _, _ => s)

/-- The slot that ends passes idle: its owner leaves the unheard set (R32, R41). -/
def State.slotPasses (s : State) (base : Addr) (k : Nat) : State :=
  s.heard (Fin.ofNat 16 (slotOwner s.port.cfg.n base k))

/-- SLOT_BOUNDARY: the slot that ends passes idle, then the next is offered, or QUIET is entered after the last
(R32, R33, R41). -/
def execSlotBoundary (zone : Byte) (s : State) : Result :=
  .next
    (match s.access.phase, s.access.base, s.access.slot with
    | .slotting, some base, some k =>
      let s0 := s.withZone zone
      let s1 := s0.advance (s0.access.busTimer.remaining ((2 + (k + 1)) * s0.c))
      let s2 := s1.slotPasses base k
      if k + 1 < s2.port.cfg.n then (s2.setAccess { s2.access with slot := some (k + 1) }).offerSlot base (k + 1)
      else (s2.setAccess { s2.access with phase := .quiet, slot := none, busTimer := Timer.stopped }).kick
    | _, _, _ => s)

/-- UNSYNCED_IDLE_EXPIRY: the line has stayed idle for 2 C + N C from t0; QUIET is entered (R30). -/
def execUnsyncedIdleExpiry (s : State) : Result :=
  .next
    (if s.access.phase = .unsynced ∧ s.access.busTimer.running = true then
      let s1 := s.advance (s.access.busTimer.remaining ((2 + s.port.cfg.n) * s.c))
      (s1.setAccess { s1.access with phase := .quiet, busTimer := Timer.stopped }).kick
    else s)

/-! ### Timers of the directory, the reservation unit and the membership unit -/

/-- The age of this state runs out at 3 P (R59). -/
def PeerState.ages : PeerState → Bool
  | .joining => true
  | .present => true
  | .absent => false
  | .silent => false
  | .evicting => false

/-- AGE_EXPIRY: the age of a JOINING or PRESENT entry, or return state, reaches 3 P and it goes SILENT (R59). An age that
was past 3 P when the entry became PRESENT by a GRANT has no time left and goes SILENT at once (R54, log 37). -/
def execAgeExpiry (peer : Addr) (s : State) : Result :=
  .next
    (if s.dirActive && s.isPeer peer && (s.standing peer).ages then
      ((s.advance (3 * s.presenceInterval - (s.entry peer).age)).silence peer).kick
    else s)

/-- REARM_TIMER_EXPIRY: the re-arm timer reaches P and the state returns to ARMED (R75). -/
def execRearmTimerExpiry (s : State) : Result :=
  .next
    (if s.resv.rearm.waiting && s.resv.rearm.timer.running then
      ((s.advance (s.resv.rearm.timer.remaining s.presenceInterval)).arm).kick
    else s)

/-- LISTEN_TIMER_EXPIRY: the listen timer reaches 2 P; JOINING, and attempt 1 begins (R99). -/
def execListenTimerExpiry (zone : Byte) (s : State) : Result :=
  .next
    (if s.memb.state = .listening ∧ s.memb.listenTimer.running = true then
      let s0 := s.withZone zone
      let s1 := s0.advance (s0.memb.listenTimer.remaining (2 * s0.presenceInterval))
      ((s1.setMemb { s1.memb with state := .joining, listenTimer := Timer.stopped }).beginAttempt 1).kick
    else s)

/-- JOIN_READING_RETRY: in READING the timer reaches P and a fresh reading is taken (R102). -/
def execJoinReadingRetry (zone : Byte) (s : State) : Result :=
  .next
    (match s.memb.join with
    | some r =>
      if r.phase = .reading ∧ s.memb.listenTimer.running = true then
        let s0 := s.withZone zone
        ((s0.advance (s0.memb.listenTimer.remaining s0.presenceInterval)).beginAttempt r.attempt).kick
      else s
    | none => s)

/-- PRESENCE_TIMER_EXPIRY: the presence timer reaches P and stops there, and a PRESENCE becomes due (R111). -/
def execPresenceTimerExpiry (s : State) : Result :=
  .next
    (if s.memb.state = .joined ∧ s.memb.presenceTimer.running = true then
      let s1 := s.advance (s.memb.presenceTimer.remaining s.presenceInterval)
      ((s1.setMemb { s1.memb with presenceTimer := { running := false, value := s1.presenceInterval } }).makePresenceDue).kick
    else s)

end Sys2Proof.Machine
end

