-- ==== Sys2Proof/Machine/Steps.lean ====
section
/-! DEFINITION. The meanings of the step events, of the pulse on STEP and of the stall timer (R121 to R126, R129, R130, R139,
R140). -/

namespace Sys2Proof.Machine

/-- The STEP pulse begins (R121). -/
def State.beginPulse (s : State) : State :=
  s.setMotion { s.motion with stepHigh := true, pulseTimer := Timer.start, setupTimer := Timer.stopped }

/-- A step in a direction is begun: at once where DIR shows it, else DIR changes and the set-up time runs first (R121,
R185). `take` is what the step does when its pulse begins. -/
def State.beginStep (s : State) (side : Side) (take : State → State) : State :=
  if s.motion.dirUp = (side == .up) then take s.beginPulse
  else s.setMotion { s.motion with dirUp := side == .up, setupTimer := Timer.start }

/-! ### Moves (R123 to R126) -/

/-- The mismatch counter after a reading at position p (R124). -/
def mismatchAfter (c : Config) (p : Nat) (reading : Option Nat) (counter : Nat) : Nat :=
  if reading = some (p / c.s) then 0 else counter + 1

/-- Release-behind after a step (R125). -/
def State.releaseBehind (s : State) : State :=
  if s.motion.p % s.port.cfg.s = 0 then
    match s.occupied, s.motion.direction with
    | .run lo _, some .up => s.releaseBelow lo
    | .run _ hi, some .down => s.releaseAbove hi
    | _, _ => s
  else s

/-- The arrival check, and the rest of a step that has not arrived: a fresh need and the step timer from 0 (R123,
R126). -/
def State.arriveOrGoOn (s : State) : State :=
  if s.motion.target = some s.motion.p then (s.setMotion { s.motion with state := .idle }).endMove .arrived
  else
    let s1 := s.updateNeed
    s1.setMotion { s1.motion with stepTimer := Timer.start }

/-- A step of a move is counted and its checks follow, in the order of R123. -/
def State.takeMoveStep (s : State) : State :=
  match s.candidate with
  | none => s
  | some p =>
    let count := mismatchAfter s.port.cfg p s.reading s.motion.mismatch
    let s1 := s.setMotion { s.motion with p := p, mismatch := count }
    if s1.port.cfg.t < count then s1.reportFault .tracking else s1.releaseBehind.arriveOrGoOn

/-- The step does not fit: STALLED, the step timer stopped and the stall timer from 0 (R129). -/
def State.enterStalled (s : State) : State :=
  s.setMotion { s.motion with state := .stalled, stepTimer := Timer.stopped, stallTimer := Timer.start }

/-- STEP_EVENT: the step timer reaches the step period in MOVING (R123). -/
def execStepEvent (zone : Byte) (s : State) : Result :=
  .next
    (if s.motion.state = .moving ∧ s.motion.stepTimer.running = true ∧ s.motion.setupTimer.running = false then
      let s0 := s.withZone zone
      let s1 := s0.advance (s0.motion.stepTimer.remaining s0.port.cfg.stepPeriod)
      (if s1.stepFits then s1.beginStep (s1.motion.direction.getD .up) State.takeMoveStep else s1.enterStalled).kick
    else s)

/-! ### Relocates (R139, R140) -/

/-- What a reading after a relocate step shows (R139). -/
inductive RelocReading where
  | boundary
  | searching
  | wrong
deriving DecidableEq, Repr

/-- The reading of a relocate in a direction from k (R139). -/
def relocReading (k : Nat) (side : Side) (reading : Option Nat) : RelocReading :=
  match side, reading with
  | _, none => .searching
  | .down, some z => if z + 1 = k then .boundary else if z = k then .searching else .wrong
  | .up, some z => if z = k + 1 then .boundary else if z = k then .searching else .wrong

/-- The position a seen boundary fixes (R139). -/
def fixedPosition (c : Config) (k : Nat) (side : Side) : Nat :=
  match side with
  | .down => k * c.s - 1
  | .up => (k + 1) * c.s

/-- The boundary is seen at a legal position, in the order of R139. -/
def State.relocateDone (s : State) (p : Nat) : State :=
  let s1 := s.setMotion
    { s.motion.stopStepping with p := p, known := true, mismatch := 0, state := .idle }
  let s2 := s1.trim.orphanClaim
  let s3 := s2.queueEvent (.relocateDone p (p / s.port.cfg.s))
  (s3.setMotion { s3.motion with reloc := none }).updateNeed

/-- A relocate step is counted and the zone reading is acted on (R139, R140). -/
def State.takeRelocStep (s : State) : State :=
  match s.motion.reloc with
  | none => s
  | some r =>
    let steps := r.steps + 1
    let s1 := s.setMotion { s.motion with reloc := some { r with steps := steps } }
    let p := fixedPosition s.port.cfg r.k r.side
    match relocReading r.k r.side s.reading with
    | .boundary => if p ≤ maxPosition s.port.cfg then s1.relocateDone p else s1.reportFault .tracking
    | .searching =>
      if s.port.cfg.s + s.port.cfg.t ≤ steps then s1.reportFault .relocateLimit
      else s1.setMotion { s1.motion with stepTimer := Timer.start }
    | .wrong => s1.reportFault .tracking

/-- RELOCATE_STEP_EVENT: the step timer reaches the step period in relocate phase STEPPING (R139). -/
def execRelocateStepEvent (zone : Byte) (s : State) : Result :=
  .next
    (match s.motion.reloc with
    | some r =>
      if s.motion.state = .relocating ∧ r.phase = .stepping ∧ s.motion.stepTimer.running = true ∧
          s.motion.setupTimer.running = false then
        let s0 := s.withZone zone
        let s1 := s0.advance (s0.motion.stepTimer.remaining s0.port.cfg.stepPeriod)
        (s1.beginStep r.side State.takeRelocStep).kick
      else s
    | none => s)

/-! ### The pulse and the stall timer -/

/-- STEP_PULSE_START: the DIR set-up time has run, the pulse begins and the step is counted (R121, R185). -/
def execStepPulseStart (zone : Byte) (s : State) : Result :=
  .next
    (if s.motion.setupTimer.running then
      let s0 := s.withZone zone
      let s1 := (s0.advance (s0.motion.setupTimer.remaining dirSetupTime)).beginPulse
      (match s1.motion.state with
      | .moving => s1.takeMoveStep
      | .relocating => s1.takeRelocStep
      | .unplaced | .idle | .stalled | .halted => s1).kick
    else s)

/-- STEP_PULSE_END: the fixed-width pulse ends and STEP returns low (R121, R185). -/
def execStepPulseEnd (s : State) : Result :=
  .next
    (if s.motion.stepHigh then
      let s1 := s.advance (s.motion.pulseTimer.remaining stepPulseWidth)
      s1.setMotion { s1.motion with stepHigh := false, pulseTimer := Timer.stopped }
    else s)

/-- STALL_TIMER_EXPIRY: the stall timer reaches the stall limit; the move ends BLOCKED in IDLE (R130). -/
def execStallTimerExpiry (s : State) : Result :=
  .next
    (if s.motion.state = .stalled ∧ s.motion.stallTimer.running = true then
      let s1 := s.advance (s.motion.stallTimer.remaining s.stallTime)
      ((s1.setMotion { s1.motion with state := .idle }).endMove .blocked).kick
    else s)

end Sys2Proof.Machine
end

