-- ==== Sys2Proof/Machine/Dispatch.lean ====
section
/-! DEFINITION. The meaning of each command, one arm per constructor. -/

namespace Sys2Proof.Machine

def exec (i : Instr) (s : State) : Host.Outcome State Fault Refusal :=
  match i with
  | .nop r => Sys2Proof.Machine.execNop r s
  | .configure r => Sys2Proof.Machine.execConfigure r s
  | .start r zone => Sys2Proof.Machine.execStart r zone s
  | .move r => Sys2Proof.Machine.execMove r s
  | .stop r => Sys2Proof.Machine.execStop r s
  | .relocate r zone => Sys2Proof.Machine.execRelocate r zone s
  | .evict r => Sys2Proof.Machine.execEvict r s
  | .clearFault r => Sys2Proof.Machine.execClearFault r s
  | .resetStation r addr rate => Sys2Proof.Machine.execResetStation r addr rate s
  | .readStatus r => Sys2Proof.Machine.execReadStatus r s
  | .readPeer r => Sys2Proof.Machine.execReadPeer r s
  | .takeEvent r => Sys2Proof.Machine.execTakeEvent r s
  | .unknownRequest kind r => Sys2Proof.Machine.execUnknownRequest kind r s
  | .cutTransaction clocks => Sys2Proof.Machine.execCutTransaction clocks s
  | .powerOnReset => Sys2Proof.Machine.execPowerOnReset s
  | .powerOnTimeExpiry addr rate => Sys2Proof.Machine.execPowerOnTimeExpiry addr rate s
  | .pinReset => Sys2Proof.Machine.execPinReset s
  | .pinResetRelease addr rate => Sys2Proof.Machine.execPinResetRelease addr rate s
  | .activity => Sys2Proof.Machine.execActivity s
  | .lineIdle => Sys2Proof.Machine.execLineIdle s
  | .lineBreak => Sys2Proof.Machine.execLineBreak s
  | .presenceFrame sender held occupied mode zone => Sys2Proof.Machine.execPresenceFrame sender held occupied mode zone s
  | .claimFrame sender addressee tag side unopposed range zone => Sys2Proof.Machine.execClaimFrame sender addressee tag side unopposed range zone s
  | .grantFrame sender claimant tag range zone => Sys2Proof.Machine.execGrantFrame sender claimant tag range zone s
  | .refuseFrame sender answered tag reason zone => Sys2Proof.Machine.execRefuseFrame sender answered tag reason zone s
  | .releaseFrame sender range zone => Sys2Proof.Machine.execReleaseFrame sender range zone s
  | .joinFrame sender attempt occupied zone => Sys2Proof.Machine.execJoinFrame sender attempt occupied zone s
  | .recallFrame sender joiner side bound zone => Sys2Proof.Machine.execRecallFrame sender joiner side bound zone s
  | .evictFrame sender target zone => Sys2Proof.Machine.execEvictFrame sender target zone s
  | .undefinedFrame chars zone => Sys2Proof.Machine.execUndefinedFrame chars zone s
  | .corruptedFrame zone => Sys2Proof.Machine.execCorruptedFrame zone s
  | .settleEnd => Sys2Proof.Machine.execSettleEnd s
  | .slotBoundary zone => Sys2Proof.Machine.execSlotBoundary zone s
  | .unsyncedIdleExpiry => Sys2Proof.Machine.execUnsyncedIdleExpiry s
  | .ageExpiry peer => Sys2Proof.Machine.execAgeExpiry peer s
  | .rearmTimerExpiry => Sys2Proof.Machine.execRearmTimerExpiry s
  | .listenTimerExpiry zone => Sys2Proof.Machine.execListenTimerExpiry zone s
  | .joinReadingRetry zone => Sys2Proof.Machine.execJoinReadingRetry zone s
  | .presenceTimerExpiry => Sys2Proof.Machine.execPresenceTimerExpiry s
  | .stepEvent zone => Sys2Proof.Machine.execStepEvent zone s
  | .relocateStepEvent zone => Sys2Proof.Machine.execRelocateStepEvent zone s
  | .stallTimerExpiry => Sys2Proof.Machine.execStallTimerExpiry s
  | .stepPulseEnd => Sys2Proof.Machine.execStepPulseEnd s
  | .characterReceived data parity stop => Sys2Proof.Machine.execCharacterReceived data parity stop s
  | .lineReturnsRecessive => Sys2Proof.Machine.execLineReturnsRecessive s
  | .readbackMismatch => Sys2Proof.Machine.execReadbackMismatch s
  | .stepPulseStart zone => Sys2Proof.Machine.execStepPulseStart zone s

end Sys2Proof.Machine
end

