-- ==== Sys2Proof/Safety.lean ====
section
/-! DEFINITION. The laws that the spec says the part keeps, as predicates on one state, and the vocabulary in which claims
about commands are stated. -/

namespace Sys2Proof.Machine

/-! ### Queues -/

/-- The limits of an event queue: at most 16 records, and the newest of 16 is OVERFLOW (R161). -/
structure EventLimits (q : List Event) : Prop where
  size : q.length ≤ 16
  newest : q.length = 16 → q.getLast? = some .overflow

/-- The event queue keeps its limits (R161). -/
def State.EventLaw (s : State) : Prop := EventLimits s.port.events

/-- The entry is a CLAIM or a JOIN, of which the queue holds at most one (R37). -/
def QEntry.isClaimOrJoin (e : QEntry) : Bool := e.isClaim || e.isJoin

/-- The limits of an outgoing queue (R37): at most 8 frames, at most one PRESENCE, at most one CLAIM or JOIN, at most one
RELEASE for each side. -/
structure QueueLimits (q : List QEntry) : Prop where
  size : q.length ≤ 8
  presence : q.countP QEntry.isPresence ≤ 1
  claimOrJoin : q.countP QEntry.isClaimOrJoin ≤ 1
  release : ∀ side : Side, q.countP (fun e => e.isReleaseOn side) ≤ 1

/-- The outgoing queue keeps its limits (R37). -/
def State.QueueLaw (s : State) : Prop := QueueLimits s.access.queue

/-! ### The fault latch -/

/-- The fault latch law: the reported intruders are a set without duplicates, and with no cause latched the flag is clear
and the set empty (R165, R167, R171). -/
structure LatchLaw (f : FaultUnit) : Prop where
  distinct : f.intruders.Nodup
  cleared : f.cause = none → f.further = false ∧ f.intruders = []

/-! ### The answer window -/

/-- The answer-window law: an open window names its originator and kind, its unheard set is without duplicates and never
holds the originator, and the unheard set of a closed window is empty (R40, R41). -/
structure WindowLaw (w : Window) : Prop where
  named : w.isOpen = true → w.originator.isSome = true ∧ w.kind.isSome = true
  distinct : w.unheard.Nodup
  notOriginator : ∀ a, w.originator = some a → a ∉ w.unheard
  closed : w.isOpen = false → w.unheard = []

/-! ### Membership, claims, faults and the drive -/

/-- The engine is in a state that only a JOINED station reaches (R97, R131, R135). -/
def engineActive : MotionState → Bool
  | .idle => true
  | .moving => true
  | .stalled => true
  | .relocating => true
  | .unplaced => false
  | .halted => false

/-- The law that ties membership, the held range, the claim, the fault latch, the engine and the step pulse together (R16,
R45, R68, R97, R98, R101, R116, R121, R142, R166, R174, R175). -/
structure StationLaw (s : State) : Prop where
  /-- H is empty in every state except JOINED (R98) -/
  heldOnlyJoined : s.memb.state ≠ .joined → s.resv.held = .empty
  /-- a station has no claim in flight unless it is JOINED (R68) -/
  claimOnlyJoined : s.memb.state ≠ .joined → s.claimInFlight = false
  /-- a CLAIM waits in the outgoing queue only for a record in QUEUED (R74, R79) -/
  claimEntry : s.access.queue.any QEntry.isClaim = true → ∃ r, s.resv.claim = some r ∧ r.phase = .queued
  /-- a join record exists only in JOINING (R101) -/
  joinOnlyJoining : s.memb.join.isSome = true → s.memb.state = .joining
  /-- the engine is out of UNPLACED and HALTED only in JOINED (R166) -/
  activeOnlyJoined : engineActive s.motion.state = true → s.memb.state = .joined
  /-- the engine is HALTED exactly while a fault is latched (R142, R143) -/
  haltedIffFault : s.motion.state = .halted ↔ s.fault.cause.isSome = true
  /-- a fault is latched only in JOINED and in EVICTED (R166) -/
  faultOnlyMember : s.fault.cause.isSome = true → s.memb.state = .joined ∨ s.memb.state = .evicted
  /-- in EVICTED the latched cause is EVICTED (R116, R167) -/
  evictedCause : s.memb.state = .evicted → s.fault.cause = some .evicted
  /-- a step pulse is high only in JOINED with no fault latched (R121) -/
  pulseOnlyDriven : s.motion.stepHigh = true → s.memb.state = .joined ∧ s.fault.cause = none
  /-- the DIR set-up time runs only in MOVING and RELOCATING (R121, log 20) -/
  setupOnlyStepping : s.motion.setupTimer.running = true → s.motion.state = .moving ∨ s.motion.state = .relocating
  /-- a reset that holds the part holds it DORMANT (R174, R175) -/
  heldDormant : s.fault.phase ≠ .running → s.memb.state = .dormant
  /-- the receiver is OFF in DORMANT and in EVICTED (R16) -/
  receiverOff : s.memb.state = .dormant ∨ s.memb.state = .evicted → s.line.rx = .off

/-- The claim record is in WAITING, or the join record is (R39). -/
def State.ownFrameOut (s : State) : Bool :=
  s.claimWaiting || match s.memb.join with
    | some r => r.phase == .waiting
    | none => false

/-- The own-window law: the station's own window is outstanding exactly while its claim or join waits (R39, R96), and a
JOIN waits in the outgoing queue only for a join record in QUEUED (R102). -/
structure OwnWindowLaw (s : State) : Prop where
  outstanding : s.access.ownWindow = s.ownFrameOut
  joinEntry : s.access.queue.any QEntry.isJoin = true → ∃ r, s.memb.join = some r ∧ r.phase = .queued

/-! ### The configuration -/

/-- Every configuration value lies in its range (R149, R150). -/
def ConfigLaw (c : Config) : Prop :=
  ∀ i lo hi v, configRange i = some (lo, hi) → configGet c i = some v → lo ≤ v ∧ v ≤ hi

/-! ### The rail -/

/-- The law of a waiting claim: it asks for zones of the rail outside H, and its recorded grant is a part of them
(R67, R79, R81). -/
structure ClaimLaw (z : Nat) (h : ZRange) (r : ClaimRecord) : Prop where
  side : r.side.isSome = true
  requested : r.requested ≠ .empty ∧ r.requested.ok z = true ∧ r.requested.overlaps h = false
  grant : ∀ g, r.grant = some g → g ≠ .empty ∧ g.ok z = true ∧ g.inside r.requested = true

/-- The law of a join record: J is a range of the rail, empty only while the reading is awaited, and the bounds lie
outside it (R101, R102, R104). -/
structure JoinLaw (z : Nat) (r : JoinRecord) : Prop where
  occupied : r.occupied.ok z = true
  read : r.occupied = .empty → r.phase = .reading
  low : ∀ b lo hi, r.lowBound = some b → r.occupied = .run lo hi → b ≤ lo
  high : ∀ b lo hi, r.highBound = some b → r.occupied = .run lo hi → hi ≤ b ∧ b < z

/-- The law of the eviction-pending record: it stands while the EVICT window is open, its target is the one EVICTING
entry, and a target that was JOINING has its carriage outside H (R56, R58, R62). -/
structure EvictionLaw (s : State) : Prop where
  absent : s.dir.eviction = none → ∀ a, (s.entry a).state ≠ .evicting
  target : ∀ r, s.dir.eviction = some r → ∀ a, (s.entry a).state = .evicting ↔ a = r.target
  window : ∀ r, s.dir.eviction = some r → s.access.window.isOpen = true ∧ s.access.window.kind = some .evict
  returns : ∀ r, s.dir.eviction = some r → r.returnState ≠ .evicting
  joiner : ∀ r, s.dir.eviction = some r → r.returnState = .joining →
    (s.entry r.target).occupied.overlaps s.resv.held = false

/-- The law of the directory against H: no zone of H lies in the extent of an entry (R48, R65). -/
def State.DirectoryLaw (s : State) : Prop := ∀ a, (s.extent a).overlaps s.resv.held = false

/-- The law of containment (R120): with the position known, the engine is in a state that knows it, p is legal and O(p)
lies inside H; in RELOCATING, the relocate range of the direction exists, the conservative occupied range of the starting
zone lies inside H, and in phase STEPPING the relocate range does. -/
structure ContainmentLaw (s : State) : Prop where
  knownState : s.motion.known = true → s.motion.state ≠ .unplaced ∧ s.motion.state ≠ .relocating
  placed : s.motion.state = .idle ∨ s.motion.state = .moving ∨ s.motion.state = .stalled → s.motion.known = true
  legal : s.motion.known = true → s.motion.p ≤ maxPosition s.port.cfg
  inside : s.motion.known = true → s.occupied.inside s.resv.held = true
  relocating : s.motion.state = .relocating → ∃ r, s.motion.reloc = some r ∧ r.k < s.port.cfg.z ∧
    (relocateRange s.port.cfg r.k r.side).isSome = true ∧ (conservativeRange s.port.cfg r.k).inside s.resv.held = true ∧
    (r.phase = .stepping → relocFits s.port.cfg r s.resv.held = true)

/-- The law of the rail: the ranges recorded are ranges of the rail, the directory and containment laws hold, and with
them what each record must keep for its conclusion to keep them (R8, R11, R65, R73, R98, R120, R123, R151). -/
structure RailLaw (s : State) : Prop where
  config : ConfigLaw s.port.cfg
  started : s.memb.state ≠ .dormant → s.straps.address.val < s.port.cfg.n ∧ s.port.cfg.w + 2 ≤ s.port.cfg.z
  heldOk : s.resv.held.ok s.port.cfg.z = true
  heldJoined : s.memb.state = .joined → s.resv.held ≠ .empty
  entriesOk : ∀ a, (s.entry a).held.ok s.port.cfg.z = true ∧ (s.entry a).occupied.ok s.port.cfg.z = true
  dormant : s.memb.state = .dormant → s.dir.eviction = none ∧ s.motion.need = none ∧
    ∀ a, (s.entry a).held = .empty ∧ (s.entry a).occupied = .empty
  directory : s.DirectoryLaw
  eviction : EvictionLaw s
  containment : ContainmentLaw s
  setUpFits : s.motion.setupTimer.running = true → s.motion.state = .moving → s.stepFits = true
  setUpSteps : s.motion.setupTimer.running = true → s.motion.state = .relocating →
    ∃ r, s.motion.reloc = some r ∧ r.phase = .stepping
  claim : ∀ r, s.resv.claim = some r → r.phase = .waiting → ClaimLaw s.port.cfg.z s.resv.held r
  need : ∀ n, s.motion.need = some n →
    n.lo ≤ n.hi ∧ n.hi < s.port.cfg.z ∧ (ZRange.run n.lo n.hi).overlaps s.resv.held = false
  join : ∀ r, s.memb.join = some r → JoinLaw s.port.cfg.z r

/-- All the laws that the part keeps together. -/
structure PartLaw (s : State) : Prop where
  event : s.EventLaw
  queue : s.QueueLaw
  latch : LatchLaw s.fault
  window : WindowLaw s.access.window
  station : StationLaw s
  ownWindow : OwnWindowLaw s
  rail : RailLaw s

/-! ### The vocabulary of claims about commands -/

/-- The command answers a next state, of which P holds. -/
def Completes (c : Instr) (s : State) (P : State → Prop) : Prop := ∃ t, exec c s = .next t ∧ P t

/-- A request is taken: no reset holds the part and the check holds (R144, R146). -/
def State.takes (s : State) (kind : Byte) (r : Request) : Prop := s.inReset = false ∧ checkHolds kind r = true

/-- The part with a request answered: the pending response has been shifted out and another one is pending (R147, R148). -/
def State.replied (s : State) (r : Request) (status : Status) (data : Data) : State :=
  s.setPort { s.port with
    response := { seq := r.seq, status := status, data := data }, shiftedOut := s.port.response.shifted 64 }

/-- The command ends a reset, with its cause and the strap levels (R174, R175, R176). -/
def EndsReset (s : State) (c : Instr) (cause : ResetCause) (addr : Addr) (rate : RateCode) : Prop :=
  match c with
  | .powerOnTimeExpiry a q => s.fault.phase = .powerOn false false ∧ cause = .powerOn ∧ a = addr ∧ q = rate
  | .pinResetRelease a q =>
      ((s.fault.phase = .powerOn true true ∧ cause = .powerOn) ∨ (s.fault.phase = .pin ∧ cause = .pin)) ∧ a = addr ∧ q = rate
  | .resetStation r a q => s.takes 0x3F#8 r ∧ cause = .ordered ∧ a = addr ∧ q = rate
  | _ => False

/-- The command begins a reset that holds the part (R174, R175). -/
def BeginsReset (s : State) (c : Instr) : Prop :=
  match c with
  | .powerOnReset => True
  | .pinReset => s.fault.phase = .running
  | _ => False

/-- A burst ends in which a frame of a defined kind arrives, and is judged that frame (R17, R21, R22); `s1` is the part at
the judgement. -/
def State.burstIs (s : State) (zone : Byte) (sender : Addr) (own : Bool) (f : Frame) (s1 : State) : Prop :=
  (s.withZone zone).burstEnd (f.chars sender) = some s1 ∧ s1.judgement = some (.valid sender own (some f))

/-- The open window, if any, does not close at a frame from this sender (R41). -/
def Window.staysOpen (w : Window) (sender : Addr) : Prop := w.isOpen = true ∧ ∃ a, a ∈ w.unheard ∧ a ≠ sender

/-- A frame from this sender does not close a window: none is open, or the open one stays open (R41). -/
def Window.unclosedBy (w : Window) (sender : Addr) : Prop := w.isOpen = false ∨ w.staysOpen sender

/-- The window after a frame from this sender that does not close it (R41). -/
def Window.after (w : Window) (sender : Addr) : Window :=
  if w.isOpen then { w with unheard := w.unheard.filter fun a => a != sender } else w

/-- A frame from this sender closes the open window: the sender is the last address unheard (R41). -/
def Window.closedBy (w : Window) (sender : Addr) : Prop :=
  w.isOpen = true ∧ w.originator.isSome = true ∧ w.kind.isSome = true ∧ w.unheard = [sender]

/-- The window closed with a cause (R41, R42). -/
def Window.ended (w : Window) (cause : CloseCause) : Window :=
  { w with isOpen := false, unheard := [], cause := some cause }

/-- The window that a frame of a kind from this sender opens on a rail of n stations (R40). -/
def Window.opened (n : Nat) (sender : Addr) (kind : WindowKind) : Window :=
  { isOpen := true, originator := some sender, kind := some kind, cause := none
    unheard := allAddrs.filter fun a => decide (a.val < n) && a != sender }

/-- The access unit counts anew from the end of a burst, and the receiver waits for the next (R16, R29, R31). -/
def CountRestarted (s1 t : State) (base : Addr) : Prop :=
  t.access.phase = .settle ∧ t.access.base = some base ∧ t.access.slot = none ∧
    t.access.busTimer = ⟨true, s1.line.lineTimer.value⟩ ∧ t.line.rx = .await ∧ t.line.txChars = []

/-- A delivery that changes nothing of the reservation, the membership, the engine, the fault latch and the events. -/
def DeliveredOnly (s1 t : State) : Prop :=
  t.resv = s1.resv ∧ t.memb = s1.memb ∧ t.motion = s1.motion ∧ t.fault = s1.fault ∧ t.port = s1.port ∧
    t.line.corrupted = s1.line.corrupted

/-- The directory is as it was, but for the age of the sender's entry (R50, R57). -/
def OnlyAgeReset (s1 t : State) (sender : Addr) : Prop :=
  t.dir.eviction = s1.dir.eviction ∧
    ∀ a, t.entry a = if a = sender then { s1.entry a with age := 0 } else s1.entry a

/-- What beginning attempt n of a join leaves: a JOIN of the conservative occupied range in QUEUED, or a record in READING
with the timer from 0; a JOIN is offered to the outgoing queue, from which QUIET alone can take it at once (R6, R102). -/
def JoinBegins (s : State) (zone : Byte) (n : Nat) (t : State) : Prop :=
  match (s.withZone zone).reading with
  | some k =>
    let j := ZRange.run k (min (k + s.port.cfg.w) (s.port.cfg.z - 1))
    (∃ r, r ∈ t.memb.join.toList ∧ r.attempt = n ∧ r.occupied = j ∧ r.lowBound = none ∧ r.highBound = none) ∧
    t.memb.listenTimer.running = false ∧
    (s.access.phase ≠ .quiet → t.access.queue = (offerTo s.access.queue (joinEntry n j)).1 ∧
      t.memb.join = some (joinRecord .queued n j))
  | none =>
    (s.access.phase ≠ .quiet ∨ s.access.queue.any QEntry.isJoin = false →
      t.memb.join = some (joinRecord .reading n .empty)) ∧ t.memb.listenTimer = ⟨true, 0⟩ ∧
    (s.access.phase ≠ .quiet → t.access.queue = s.access.queue)

/-- The fault latch is as it was, whatever time has passed. -/
def SameLatch (s t : State) : Prop :=
  t.fault.cause = s.fault.cause ∧ t.fault.further = s.fault.further ∧ t.fault.intruders = s.fault.intruders ∧
    t.fault.resetCause = s.fault.resetCause ∧ t.fault.phase = s.fault.phase

/-- The slot that ends at the next boundary is that of the last address unheard in an open window, and the slot that
follows it exists and is another station's, so that the boundary closes the window COMPLETE and no frame begins
(R32, R33, R41). -/
def ClosesAtBoundary (s : State) (base : Addr) (k : Nat) (originator : Addr) (kind : WindowKind) : Prop :=
  s.access.phase = .slotting ∧ s.access.base = some base ∧ s.access.slot = some k ∧ k + 1 < s.port.cfg.n ∧
    (base.val + 1 + (k + 1)) % s.port.cfg.n ≠ s.straps.address.val ∧ s.access.window.isOpen = true ∧
    s.access.window.originator = some originator ∧ s.access.window.kind = some kind ∧
    s.access.window.unheard = [Fin.ofNat 16 ((base.val + 1 + k) % s.port.cfg.n)]

/-- A command brings an instant of handover, at which the part is s0, and the station may send (R33): slot 0 or a later
slot begins and is this station's own, QUIET is entered, or in QUIET the presence timer makes a PRESENCE due or the re-arm
timer lets a claim be formed. The slot that ends leaves a window open (R30, R31, R32, R41). -/
def HandsOver (s : State) (c : Instr) (s0 : State) : Prop :=
  let n := s.port.cfg.n
  s.memb.state ≠ .dormant ∧ s.memb.state ≠ .evicted ∧
  match c with
  | .settleEnd => ∃ base, base ∈ s.access.base.toList ∧ s.access.phase = .settle ∧
      (base.val + 1) % n = s.straps.address.val ∧
      let t := s.advance (2 * s.c - s.access.busTimer.value)
      s0 = t.setAccess { t.access with phase := .slotting, slot := some 0 }
  | .slotBoundary zone => ∃ base, base ∈ s.access.base.toList ∧ ∃ k, k ∈ s.access.slot.toList ∧
      s.access.phase = .slotting ∧
      let o : Addr := Fin.ofNat 16 ((base.val + 1 + k) % n)
      let t := (s.withZone zone).advance ((2 + (k + 1)) * s.c - s.access.busTimer.value)
      (s.access.window.isOpen = false ∨ o ∉ s.access.window.unheard ∨ s.access.window.staysOpen o) ∧
      ((k + 1 < n ∧ (base.val + 1 + (k + 1)) % n = s.straps.address.val ∧
          s0 = t.setAccess { t.access with window := s.access.window.after o, slot := some (k + 1) }) ∨
        (n ≤ k + 1 ∧ s0 = t.setAccess
          { t.access with
            window := s.access.window.after o, phase := .quiet, slot := none, busTimer := ⟨false, 0⟩ }))
  | .unsyncedIdleExpiry => s.access.phase = .unsynced ∧ s.access.busTimer.running = true ∧
      let t := s.advance ((2 + n) * s.c - s.access.busTimer.value)
      s0 = t.setAccess { t.access with phase := .quiet, busTimer := ⟨false, 0⟩ }
  | .presenceTimerExpiry => s.access.phase = .quiet ∧ s.memb.state = .joined ∧ s.memb.presenceTimer.running = true ∧
      let t := s.advance (s.presenceInterval - s.memb.presenceTimer.value)
      s0 = (t.setMemb { t.memb with presenceTimer := ⟨false, s.presenceInterval⟩ }).makePresenceDue
  | .rearmTimerExpiry => s.access.phase = .quiet ∧ s.resv.rearm.waiting = true ∧
      s.resv.rearm.timer.running = true ∧ s0 = (s.advance (s.presenceInterval - s.resv.rearm.timer.value)).arm
  | _ => False

/-- The transmission of a frame has begun: the line unit sends its characters and the queue is without the entry
(R23, R29, R33). -/
def Transmits (s t : State) (e : QEntry) (f : Frame) : Prop :=
  t.access.phase = .transmitting ∧ t.access.slot = none ∧ t.access.busTimer = ⟨false, 0⟩ ∧
    t.access.queue = s.access.queue.erase e ∧ t.access.inTx = some { entry := e, frame := f } ∧
    t.line = { rx := .char, lineTimer := ⟨true, 0⟩, crc := 0xFFFF#16, txChars := f.chars s.straps.address,
               corrupted := s.line.corrupted,
               burst := some { chars := [], count := 0, bad := false, own := true, mismatch := false } }

/-- The zones from a to b of a carriage of the footprint at a position (R5). -/
def bodyAt (c : Config) (q : Nat) : ZRange := .run (q / c.s) ((q + c.w * c.s - 1) / c.s)

/-- A step of a move in a direction leads to position q, and the carriage there lies on the rail and inside H
(R2, R123). -/
def StepLeadsTo (s : State) (side : Side) (q : Nat) : Prop :=
  s.motion.direction = some side ∧ (side = .up → q = s.motion.p + 1) ∧ (side = .down → q + 1 = s.motion.p) ∧
    q ≤ (s.port.cfg.z - s.port.cfg.w) * s.port.cfg.s ∧ (bodyAt s.port.cfg q).inside s.resv.held = true

/-- A list of events offered in turn (R161). -/
def placeEvents (q : List Event) (es : List Event) : List Event := es.foldl placeEvent q

/-- The blocks apart from the port are as they were. -/
def State.sameBlocks (s t : State) : Prop :=
  t.straps = s.straps ∧ t.line = s.line ∧ t.access = s.access ∧ t.dir = s.dir ∧ t.resv = s.resv ∧ t.memb = s.memb ∧
    t.motion = s.motion ∧ t.fault = s.fault

/-- The first three data bytes of a position group with the motion state, and two more (R183). -/
def State.positionBytes (s : State) (d3 d4 : Byte) : Data :=
  ⟨byte (128 * s.motion.known.toNat + 16 * modeCode s.motion.state + s.motion.p / 65536 % 16), byte (s.motion.p / 256),
    byte s.motion.p, d3, d4⟩

/-- The sixteen bits of a configuration value in a response (R183). -/
def configBytes (index : Byte) (value : Nat) : Data := ⟨index, byte (value / 256), byte value, 0x00#8, 0x00#8⟩

/-- The position of an event: p when it is known (R134). -/
def State.knownPosition (s : State) : Option Nat := if s.motion.known then some s.motion.p else none

/-- The event of the end by a fault of the move or relocate in progress, if any (R134, R141, R142). -/
def State.endedByFault (s : State) : List Event :=
  match s.motion.state with
  | .moving => [.moveEnded .fault s.knownPosition]
  | .stalled => [.moveEnded .fault s.knownPosition]
  | .relocating => s.motion.reloc.toList.map fun r => .relocateEnded .fault r.k
  | .unplaced => []
  | .idle => []
  | .halted => []

/-! ### What a conclusion leaves -/

/-- A claim on a side waits for its window's close, and asks for zones outside H (R67, R79, R84). -/
def State.awaitsClaim (s : State) (r : ClaimRecord) (side : Side) : Prop :=
  s.resv.claim = some r ∧ r.phase = .waiting ∧ r.side = some side ∧ r.requested ≠ .empty ∧
    r.requested.overlaps s.resv.held = false

/-- The zone a claim on a side asks for first (R87). -/
def ClaimRecord.firstZone (r : ClaimRecord) (side : Side) : Nat :=
  match side, r.requested with
  | _, .empty => 0
  | .up, .run lo _ => lo
  | .down, .run _ hi => hi

/-- A claim has concluded without zones: H is as it was, a RELEASE on the claim's side is queued, and the attempt counts
up, the fourth ending in CLAIM_FAILED; an orphaned claim starts the attempts over without an event (R82, R84 to R87). -/
def ClaimFails (s t : State) (r : ClaimRecord) (side : Side) (reason : EventReason) : Prop :=
  t.resv.held = s.resv.held ∧ t.claimWaiting = false ∧ t.access.ownWindow = false ∧
  t.access.queue.any (fun e => e.isReleaseOn side) = true ∧
  (r.orphaned = true → t.resv.attempt = 1 ∧ t.resv.attemptSide = none ∧ t.port.events = s.port.events) ∧
  (r.orphaned = false → s.resv.attempt < 4 →
    t.resv.attempt = s.resv.attempt + 1 ∧ t.port.events = s.port.events) ∧
  (r.orphaned = false → s.resv.attempt = 4 → s.motion.state ≠ .relocating →
    t.resv.attempt = 1 ∧ t.resv.attemptSide = none ∧
    t.port.events = placeEvent s.port.events (.claimFailed reason r.addressee (r.firstZone side)))

/-- CLAIM_FAILED reaches a relocate that waits in CLAIMING with the failed claim's side as its direction: from DOWN it turns
to UP where an up relocate is possible, and steps if it holds the up range already; else it ends BLOCKED (R137, R138,
R141). -/
def RelocateTurns (s t : State) (y : RelocRecord) (failed : Event) : Prop :=
  let c := s.port.cfg
  let top := y.k + c.w + 1
  let holdsUp := (ZRange.run y.k top).inside s.resv.held
  (y.side = .up ∨ c.z ≤ top → t.motion.state = .unplaced ∧ t.motion.reloc = none ∧ t.motion.need = none ∧
    t.port.events = placeEvents s.port.events [failed, .relocateEnded .blocked y.k]) ∧
  (y.side = .down → top < c.z → t.motion.state = .relocating ∧
    t.motion.reloc = some
      { y with side := .up, downTried := true, phase := if holdsUp then .stepping else .claiming } ∧
    t.motion.need = (if holdsUp then none else some { side := .up, lo := top, hi := top }) ∧
    t.port.events = placeEvent s.port.events failed)

/-- An attempt of a join has failed: the next begins with the zone read, or the fourth fails the join, JOIN_FAILED naming
no station (R102, R108, R110). -/
def JoinAttemptFails (s t : State) (q : JoinRecord) (reason : EventReason) : Prop :=
  t.resv.held = s.resv.held ∧ t.access.ownWindow = false ∧
  (q.attempt < 4 → t.memb.state = s.memb.state ∧ t.port.events = s.port.events ∧
    match s.reading with
    | some k =>
      t.memb.join = some
        (joinRecord .queued (q.attempt + 1) (.run k (min (k + s.port.cfg.w) (s.port.cfg.z - 1)))) ∧
      t.memb.listenTimer.running = false
    | none =>
      t.memb.join = some (joinRecord .reading (q.attempt + 1) .empty) ∧ t.memb.listenTimer = ⟨true, 0⟩) ∧
  (4 ≤ q.attempt → t.memb.state = .detached ∧ t.memb.join = none ∧
    t.port.events = placeEvent s.port.events (.joinFailed reason none))

/-- An eviction has not been applied: its target's entry has its state back and its fields as they stood (R62). -/
def EvictionReturns (s t : State) (v : EvictionPending) : Prop :=
  t.dir.eviction = none ∧ (t.entry v.target).state = v.returnState ∧
  (t.entry v.target).held = (s.entry v.target).held ∧ (t.entry v.target).occupied = (s.entry v.target).occupied ∧
  (t.entry v.target).mode = (s.entry v.target).mode

/-- The eviction this station ordered has failed (R114). -/
def EvictFails (s t : State) (x : EvictRecord) (reason : EventReason) : Prop :=
  t.memb.evict = none ∧ t.port.events = placeEvent s.port.events (.evictFailed reason x.target)

/-- A grant to a peer stands in its entry: the held range extended and clipped against H, the state PRESENT but for a
SILENT entry, which stays so; of an EVICTING entry the return state is meant (R50, R54). -/
def GrantStands (s t : State) (claimant : Addr) (g : ZRange) : Prop :=
  let e := s.entry claimant
  let extended := match e.state with
    | .absent => g
    | .joining => (e.held.span e.occupied).span g
    | .present => e.held.span g
    | .silent => e.held.span g
    | .evicting => e.held.span g
  let fields := { e with held := clip s.resv.held extended e.occupied }
  (e.state ≠ .evicting → t.dir.eviction = s.dir.eviction ∧
    t.entry claimant = { fields with state := if e.state = .silent then .silent else .present }) ∧
  (∀ v, v ∈ s.dir.eviction.toList → v.target = claimant → e.state = .evicting → t.entry claimant = fields ∧
    t.dir.eviction = some { v with returnState := if v.returnState = .silent then .silent else .present }) ∧
  t.port.events = placeEvents s.port.events
    (if s.standing claimant = .absent ∨ s.standing claimant = .joining then [.peerJoined claimant] else [])

end Sys2Proof.Machine

namespace Sys2Proof

/-- The kind byte and the rest of a request command (R182). -/
def Instr.request : Instr → Option (Byte × Request)
  | .nop r => some (0x00#8, r)
  | .configure r => some (0x10#8, r)
  | .start r _ => some (0x11#8, r)
  | .move r => some (0x20#8, r)
  | .stop r => some (0x21#8, r)
  | .relocate r _ => some (0x22#8, r)
  | .evict r => some (0x30#8, r)
  | .clearFault r => some (0x31#8, r)
  | .resetStation r _ _ => some (0x3F#8, r)
  | .readStatus r => some (0x40#8, r)
  | .readPeer r => some (0x41#8, r)
  | .takeEvent r => some (0x42#8, r)
  | .unknownRequest kind r => if requestKinds.contains kind then none else some (kind, r)
  | _ => none

/-- The command begins, extends or ends a reset (R174, R175, R176). -/
def Instr.isReset : Instr → Bool
  | .powerOnReset => true
  | .powerOnTimeExpiry _ _ => true
  | .pinReset => true
  | .pinResetRelease _ _ => true
  | .resetStation _ _ _ => true
  | _ => false

/-- The command is CONFIGURE. -/
def Instr.isConfigure : Instr → Bool
  | .configure _ => true
  | _ => false

/-- The command is a transaction of the controller port (R144). -/
def Instr.isTransaction : Instr → Bool
  | .unknownRequest _ _ => true
  | .cutTransaction _ => true
  | c => c.request.isSome

/-- The command can change the corrupted-frame count outside a reset (R27). -/
def Instr.countsCorrupted : Instr → Bool
  | .readStatus _ => true
  | .corruptedFrame _ => true
  | _ => false

/-- A frame of a defined kind that a station may send on a rail of n stations and z zones: it passes the content check of
R22; the addressee of an unopposed CLAIM is 0 (R79, R181). -/
def Frame.legal (n z : Nat) (sender : Addr) : Frame → Bool
  | .presence held occupied _ => held.ok z && occupied.ok z
  | .claim addressee _ _ unopposed range =>
      range != .empty && range.ok z && (if unopposed then addressee == 0 else decide (addressee.val < n) && addressee != sender)
  | .grant claimant _ range => range != .empty && range.ok z && decide (claimant.val < n) && claimant != sender
  | .refuse answered _ _ => decide (answered.val < n) && answered != sender
  | .release range => range != .empty && range.ok z
  | .join attempt occupied => decide (1 ≤ attempt) && decide (attempt ≤ 4) && occupied != .empty && occupied.ok z
  | .recall joiner _ bound => decide (bound < z) && decide (joiner.val < n) && joiner != sender
  | .evict target => decide (target.val < n) && target != sender

/-- The command in which a burst ends that is judged a frame. -/
def Frame.command (f : Frame) (sender : Addr) (zone : Byte) : Instr :=
  match f with
  | .presence held occupied mode => .presenceFrame sender held occupied mode zone
  | .claim addressee tag side unopposed range => .claimFrame sender addressee tag side unopposed range zone
  | .grant claimant tag range => .grantFrame sender claimant tag range zone
  | .refuse answered tag reason => .refuseFrame sender answered tag reason zone
  | .release range => .releaseFrame sender range zone
  | .join attempt occupied => .joinFrame sender attempt occupied zone
  | .recall joiner side bound => .recallFrame sender joiner side bound zone
  | .evict target => .evictFrame sender target zone

end Sys2Proof
end

