-- ==== Sys2Proof/Certificates/Slice0/Obligations.lean ====
section
/-! DEFINITION. The statements for the provers. `Completes c s P`: the command c answers, in the state s, a next state of
which P holds. -/

open Sys2Proof Sys2Proof.Machine

/-! ### The machine -/

/-- A step takes the command at the front of the queue and runs it with the queue's rest. -/
def Obligations.StepRunsTheFrontCommand : Prop :=
  ∀ (c : Instr) (rest : List Instr) (s : State), step (s.setPending (c :: rest)) = exec c (s.setPending rest)

/-- On an empty queue one microsecond passes (the model's choice, log 3): every running timer and the age of every peer
in an active directory grow by exactly 1, a stopped timer and every other age do not, and nothing else changes
(R49, R59). -/
def Obligations.EmptyQueueLetsOneMicrosecondPass : Prop :=
  ∀ (s : State), s.pending = [] →
    let ticked := fun (x : Timer) => if x.running then (⟨true, x.value + 1⟩ : Timer) else x
    let active := s.memb.state = .listening ∨ s.memb.state = .joining ∨ s.memb.state = .joined ∨
      s.memb.state = .detached
    let t := s.advance 1
    step s = .next t ∧ t.pending = [] ∧ t.pins = s.pins ∧ t.straps = s.straps ∧ t.port = s.port ∧
    t.line = { s.line with lineTimer := ticked s.line.lineTimer } ∧
    t.access = { s.access with busTimer := ticked s.access.busTimer } ∧
    t.resv = { s.resv with rearm := { s.resv.rearm with timer := ticked s.resv.rearm.timer } } ∧
    t.memb = { s.memb with
               listenTimer := ticked s.memb.listenTimer, presenceTimer := ticked s.memb.presenceTimer } ∧
    t.motion = { s.motion with
                 stepTimer := ticked s.motion.stepTimer, stallTimer := ticked s.motion.stallTimer,
                 setupTimer := ticked s.motion.setupTimer, pulseTimer := ticked s.motion.pulseTimer } ∧
    t.fault = { s.fault with powerOnTimer := ticked s.fault.powerOnTimer } ∧
    t.dir.eviction = s.dir.eviction ∧
    ∀ a, t.entry a =
      if active ∧ a ≠ s.straps.address ∧ a.val < s.port.cfg.n then { s.entry a with age := (s.entry a).age + 1 }
      else s.entry a

/-- Every command answers a next state, leaves the waiting commands as they are, and outside a reset writes the registers
of others in no case: the straps, the reset cause and the configuration stand but for CONFIGURE, the response and the last
transaction but for the port's own commands, the corrupted-frame count but for READ_STATUS and a corrupted frame (R27,
R145, R149, R151, R177). -/
def Obligations.EveryCommandAnswersAndKeepsTheRest : Prop :=
  ∀ (c : Instr) (s : State), Completes c s fun t =>
    t.pending = s.pending ∧
    (c.isReset = false → t.straps = s.straps ∧ t.fault.resetCause = s.fault.resetCause ∧ t.fault.phase = s.fault.phase ∧
      (c.isConfigure = false → t.port.cfg = s.port.cfg) ∧
      (c.isTransaction = false → t.port.response = s.port.response ∧ t.port.shiftedOut = s.port.shiftedOut) ∧
      (c.countsCorrupted = false → t.line.corrupted = s.line.corrupted))

/-! ### Resets -/

/-- The values of the part after a power-on reset, register by register (R28, R46, R49, R67, R98, R117, R148, R149, R162,
R165, R177). -/
def Obligations.ResetStateHoldsTheResetValues : Prop :=
  State.reset.line.rx = .off ∧ State.reset.line.burst = none ∧ State.reset.line.crc = 0xFFFF#16 ∧
  State.reset.line.txChars = [] ∧ State.reset.line.corrupted = 0 ∧ State.reset.driving = false ∧
  State.reset.access.phase = .unsynced ∧ State.reset.access.base = none ∧ State.reset.access.slot = none ∧
  State.reset.access.queue = [] ∧ State.reset.access.inTx = none ∧ State.reset.access.ownWindow = false ∧
  State.reset.access.window = { isOpen := false, originator := none, kind := none, unheard := [], cause := none } ∧
  (∀ a, State.reset.entry a = { state := .absent, held := .empty, occupied := .empty, mode := .unplaced, age := 0 }) ∧
  State.reset.dir.eviction = none ∧
  State.reset.resv.held = .empty ∧ State.reset.resv.claim = none ∧ State.reset.resv.tagCounter = 15 ∧
  State.reset.resv.attempt = 1 ∧ State.reset.resv.attemptSide = none ∧
  State.reset.resv.rearm = { waiting := false, watched := [], timer := ⟨false, 0⟩ } ∧
  State.reset.memb = { state := .dormant, listenTimer := ⟨false, 0⟩, join := none, presenceTimer := ⟨false, 0⟩,
                       presenceDue := false, evict := none, target := none } ∧
  State.reset.motion.state = .unplaced ∧ State.reset.motion.p = 0 ∧ State.reset.motion.known = false ∧
  State.reset.motion.target = none ∧ State.reset.motion.direction = none ∧
  State.reset.motion.stepTimer.running = false ∧ State.reset.motion.stallTimer.running = false ∧
  State.reset.motion.mismatch = 0 ∧ State.reset.motion.reloc = none ∧ State.reset.motion.need = none ∧
  State.reset.motion.dirUp = false ∧ State.reset.motion.stepHigh = false ∧
  State.reset.port.cfg = { n := 16, z := 240, s := 400, w := 1, a := 2, stepPeriod := 1000, p := 10, stallLimit := 200,
                           t := 4, retain := 0 } ∧
  State.reset.port.response.bytes = [0x00, 0x00, 0x01, 0x00, 0x00, 0x00, 0x00, 0xFF] ∧
  State.reset.port.events = [.resetDone .powerOn] ∧
  State.reset.fault.cause = none ∧ State.reset.fault.further = false ∧ State.reset.fault.intruders = [] ∧
  State.reset.fault.resetCause = .powerOn

/-- Every reset, however it ends, leaves every block in its reset state, the configuration as its cause says, the straps as
sampled, RESET_DONE alone in the queue and the NOP data of that state pending, and puts the outputs as after a reset
(R28, R46, R49, R67, R98, R117, R148, R149, R156, R162, R165, R174, R175, R176, R177). -/
def Obligations.EveryResetEndsInTheResetState : Prop :=
  ∀ (c : Instr) (s : State) (cause : ResetCause) (addr : Addr) (rate : RateCode), EndsReset s c cause addr rate →
    Completes c s fun t =>
      t.line = State.reset.line ∧ t.access = State.reset.access ∧ t.dir = State.reset.dir ∧
      t.resv = State.reset.resv ∧ t.memb = State.reset.memb ∧ t.motion = State.reset.motion ∧
      t.fault.cause = none ∧ t.fault.further = false ∧ t.fault.intruders = [] ∧ t.fault.resetCause = cause ∧
      t.inReset = false ∧ t.straps = { address := addr, rate := rate } ∧ t.pins = s.pins ∧
      t.port.cfg = (if cause = .ordered ∧ s.port.cfg.retain = 1 then s.port.cfg else State.reset.port.cfg) ∧
      t.port.events = [.resetDone cause] ∧
      t.port.response.status = .done ∧ t.port.response.data = ⟨0x01#8, 0x00#8, 0x00#8, 0x00#8, 0x00#8⟩ ∧
      t.port.response.seq = (match c.request with | some (_, r) => r.seq | none => 0x00#8) ∧
      t.driveEn = false ∧ t.faultLine = false ∧ t.attention = true

/-- A power-on reset and a pin reset put every block into its reset state at once and hold the part there with the outputs
deasserted; RESET_N within a power-on reset is part of it, and neither the release of RESET_N nor the power-on time ends it
while the other still holds (R26, R174, R175). That the power-on timer stands at 0 until the supply is back, and that a
RESET_N held then stays held, are the model's choice (log 17), and so is that the port but for its events, the straps and the
reset cause keep their values while the reset is held (log 36). -/
def Obligations.ResetThatBeginsHoldsThePart : Prop :=
  ∀ (c : Instr) (s : State) (timeRun : Bool) (addr : Addr) (rate : RateCode),
    (BeginsReset s c → Completes c s fun t =>
      t.inReset = true ∧ t.line = State.reset.line ∧ t.access = State.reset.access ∧ t.dir = State.reset.dir ∧
      t.resv = State.reset.resv ∧ t.memb = State.reset.memb ∧ t.motion = State.reset.motion ∧ t.port.events = [] ∧
      t.fault.cause = none ∧ t.driveEn = false ∧ t.faultLine = false ∧ t.attention = false ∧ t.driving = false ∧
      t.fault.further = false ∧ t.fault.intruders = [] ∧ t.pins = s.pins ∧ t.straps = s.straps ∧
      t.fault.resetCause = s.fault.resetCause ∧ t.port = { s.port with events := [] } ∧
      (c = .pinReset → t.fault.phase = .pin) ∧
      (c = .powerOnReset → t.fault.powerOnTimer = ⟨false, 0⟩ ∧
        (s.fault.phase = .running → t.fault.phase = .powerOn false false) ∧
        (s.fault.phase = .pin → t.fault.phase = .powerOn true false) ∧
        (s.fault.phase = .powerOn false timeRun → t.fault.phase = .powerOn false false) ∧
        (s.fault.phase = .powerOn true timeRun → t.fault.phase = .powerOn true false))) ∧
    (s.fault.phase = .powerOn false timeRun → Completes .pinReset s fun t =>
      t = s.setFault { s.fault with phase := .powerOn true timeRun }) ∧
    (s.fault.phase = .powerOn true false → Completes (.powerOnTimeExpiry addr rate) s fun t =>
      t.fault.phase = .powerOn true true ∧ t.inReset = true ∧ t.port = s.port ∧ t.straps = s.straps) ∧
    (s.fault.phase = .powerOn true false → Completes (.pinResetRelease addr rate) s fun t =>
      t = s.setFault { s.fault with phase := .powerOn false false })

/-! ### The controller port -/

/-- NOP is answered DONE with the number of events, the fault flag and the membership state, and has no effect on any
block (R157). -/
def Obligations.NopAnswersAndChangesNoBlock : Prop :=
  ∀ (r : Request) (s : State), s.takes 0x00#8 r →
    exec (.nop r) s = .next (s.replied r .done
      ⟨byte s.port.events.length, if s.fault.cause.isSome then 0x01#8 else 0x00#8, byte (memberCode s.memb.state),
        0x00#8, 0x00#8⟩)

/-- A request with a bad check is answered CHECK with data 0 and has no effect, and one of an unknown kind UNKNOWN; the
check of every response is the two's complement of its byte sum (R146, R147). The level on ZONE is held as the command
gives it (log 5). -/
def Obligations.BadCheckAndUnknownKindHaveNoEffect : Prop :=
  ∀ (c : Instr) (kind : Byte) (r : Request) (s : State) (p : Response),
    (c.request = some (kind, r) → s.inReset = false →
      kind + r.seq + r.arg0 + r.arg1 + r.arg2 + r.arg3 + r.arg4 + r.check ≠ 0x00#8 →
      Completes c s fun t => t.setPins s.pins = s.replied r .check ⟨0x00#8, 0x00#8, 0x00#8, 0x00#8, 0x00#8⟩) ∧
    (requestKinds.contains kind = false → s.takes kind r →
      exec (.unknownRequest kind r) s = .next (s.replied r .unknown ⟨0x00#8, 0x00#8, 0x00#8, 0x00#8, 0x00#8⟩)) ∧
    p.bytes.foldl (· + ·) 0x00#8 = 0x00#8

/-- A cut or overlong transaction shifts the pending response out and leaves it as it was, the periods beyond the 64th
carrying ones; while a reset holds the part, no request and no transaction has an effect (R144, R145, R148, R175;
log 16). -/
def Obligations.TransactionsWithoutARequestLeaveTheResponse : Prop :=
  ∀ (c : Instr) (kind : Byte) (r : Request) (clocks : Nat) (s : State),
    (s.inReset = false → clocks ≠ 64 → Completes (.cutTransaction clocks) s fun t =>
      t = s.setPort { s.port with shiftedOut := t.port.shiftedOut } ∧ t.port.shiftedOut.length = clocks ∧
      t.port.shiftedOut.take 64 = (s.port.response.bytes.flatMap bitsMsbFirst).take clocks ∧
      t.port.shiftedOut.drop 64 = List.replicate (clocks - 64) true) ∧
    (s.inReset = true → c.request = some (kind, r) → Completes c s fun t => t.setPins s.pins = s) ∧
    (s.inReset = true → exec (.cutTransaction clocks) s = .next s)

/-- CONFIGURE's tests in order, its effect and its data (R149, R150). -/
def Obligations.ConfigureWritesOneValueInDormant : Prop :=
  ∀ (r : Request) (s : State), s.takes 0x10#8 r →
    let i := r.arg0.toNat
    let v := r.value16
    let held := match configGet s.port.cfg i with | some x => configBytes r.arg0 x | none => ⟨0x00#8, 0x00#8, 0x00#8, 0x00#8, 0x00#8⟩
    (s.memb.state ≠ .dormant → exec (.configure r) s = .next (s.replied r .state held)) ∧
    (s.memb.state = .dormant → 10 ≤ i → exec (.configure r) s = .next (s.replied r .range held)) ∧
    (s.memb.state = .dormant → (∃ q, q ∈ (configRange i).toList ∧ ¬ (q.1 ≤ v ∧ v ≤ q.2)) →
      exec (.configure r) s = .next (s.replied r .range held)) ∧
    (s.memb.state = .dormant → (∃ q, q ∈ (configRange i).toList ∧ q.1 ≤ v ∧ v ≤ q.2) →
      Completes (.configure r) s fun t =>
        t = (s.setPort { s.port with cfg := t.port.cfg }).replied r .done (configBytes r.arg0 v) ∧
        configGet t.port.cfg i = some v ∧ ∀ j, j ∈ List.range 10 → j ≠ i → configGet t.port.cfg j = configGet s.port.cfg j)

/-- START's tests in order; in DORMANT it begins the listen period, in DETACHED attempt 1 of a join at once, and in every other
state it is refused (R16, R49, R99, R100, R102, R151). That the recessive time counts from the entry to SEEK is the model's
choice (log 14). -/
def Obligations.StartLeavesDormantOrDetached : Prop :=
  ∀ (r : Request) (zone : Byte) (s : State), s.takes 0x11#8 r →
    let data := fun (m : MemberState) =>
      (⟨byte s.straps.address.val, byte s.straps.rate.val, byte (memberCode m), 0x00#8, 0x00#8⟩ : Data)
    (s.memb.state = .dormant → (s.port.cfg.n ≤ s.straps.address.val ∨ s.port.cfg.z - 2 < s.port.cfg.w) →
      exec (.start r zone) s = .next ((s.withZone zone).replied r .config (data .dormant))) ∧
    (s.memb.state = .dormant → s.straps.address.val < s.port.cfg.n → s.port.cfg.w ≤ s.port.cfg.z - 2 →
      Completes (.start r zone) s fun t =>
        t.memb = { s.memb with state := .listening, listenTimer := ⟨true, 0⟩ } ∧
        t.line = { s.line with rx := .seek, lineTimer := ⟨true, 0⟩ } ∧
        (∀ a, t.entry a = if s.isPeer a then { s.entry a with age := 0 } else s.entry a) ∧
        t.dir.eviction = s.dir.eviction ∧ t.straps = s.straps ∧ t.access = s.access ∧ t.resv = s.resv ∧
        t.motion = s.motion ∧ t.fault = s.fault ∧ t.port = (s.replied r .done (data .listening)).port) ∧
    (s.memb.state = .listening ∨ s.memb.state = .joining ∨ s.memb.state = .joined ∨ s.memb.state = .evicted →
      exec (.start r zone) s = .next ((s.withZone zone).replied r .state (data s.memb.state))) ∧
    (s.memb.state = .detached → Completes (.start r zone) s fun t =>
      t.memb.state = .joining ∧ JoinBegins s zone 1 t ∧ t.dir = s.dir ∧ t.resv.held = s.resv.held ∧ t.fault = s.fault ∧
      t.port.response = { seq := r.seq, status := .done, data := data .joining })

/-- MOVE's tests in order (R131, R152). -/
def Obligations.MoveIsRefusedInTheOrderOfItsTests : Prop :=
  ∀ (r : Request) (s : State), s.takes 0x20#8 r →
    let t := r.target20
    let pos := s.positionBytes 0x00#8 0x00#8
    (maxPosition s.port.cfg < t → exec (.move r) s = .next (s.replied r .range pos)) ∧
    (t ≤ maxPosition s.port.cfg → s.memb.state ≠ .joined → exec (.move r) s = .next (s.replied r .state pos)) ∧
    (t ≤ maxPosition s.port.cfg → s.memb.state = .joined → (s.motion.state = .unplaced ∨ s.motion.state = .halted) →
      exec (.move r) s = .next (s.replied r .state pos)) ∧
    (t ≤ maxPosition s.port.cfg → s.memb.state = .joined → s.motion.state = .relocating →
      exec (.move r) s = .next (s.replied r .busy pos))

/-- MOVE in IDLE begins a move, or ends at once where the carriage stands at the target (R122, R127, R131, R134). -/
def Obligations.MoveBeginsAMoveFromIdle : Prop :=
  ∀ (r : Request) (s : State), s.takes 0x20#8 r → s.memb.state = .joined → s.motion.state = .idle →
    r.target20 ≤ maxPosition s.port.cfg →
    let t := r.target20
    let d := if s.motion.p < t then Side.up else Side.down
    (t ≠ s.motion.p → Completes (.move r) s fun u =>
      u.motion.state = .moving ∧ u.motion.target = some t ∧ u.motion.direction = some d ∧ u.motion.mismatch = 0 ∧
      u.motion.stepTimer = ⟨true, 0⟩ ∧ u.motion.stallTimer = s.motion.stallTimer ∧ u.motion.p = s.motion.p ∧
      u.motion.known = s.motion.known ∧ u.motion.dirUp = s.motion.dirUp ∧ u.motion.stepHigh = s.motion.stepHigh ∧
      u.motion.need = (if s.resv.held = .empty ∨ s.motion.known = false then none
        else moveNeed s.port.cfg s.motion.p t d s.resv.held) ∧
      u.resv.held = s.resv.held ∧ u.dir = s.dir ∧ u.fault = s.fault ∧ u.memb.state = s.memb.state ∧
      u.port.response.status = .done) ∧
    (t = s.motion.p → Completes (.move r) s fun u =>
      u.motion.state = .idle ∧ u.motion.target = none ∧ u.motion.direction = none ∧ u.motion.need = none ∧
      u.motion.p = s.motion.p ∧ u.motion.known = s.motion.known ∧ u.motion.stepTimer.running = false ∧
      u.port.events = placeEvent s.port.events (.moveEnded .arrived s.knownPosition) ∧
      u.dir = s.dir ∧ u.fault = s.fault ∧ u.port.response.status = .done)

/-- MOVE while MOVING or STALLED is a retarget: ahead of the carriage it replaces the target, at the carriage it ends the
move ARRIVED, behind it is refused BUSY (R132). -/
def Obligations.MoveRetargetsARunningMove : Prop :=
  ∀ (r : Request) (s : State), s.takes 0x20#8 r → s.memb.state = .joined →
    (s.motion.state = .moving ∨ s.motion.state = .stalled) → r.target20 ≤ maxPosition s.port.cfg →
    let t := r.target20
    let ahead := s.motion.direction = some (if s.motion.p < t then Side.up else Side.down)
    (t ≠ s.motion.p → ahead → Completes (.move r) s fun u =>
      u.motion.target = some t ∧ u.motion.direction = s.motion.direction ∧ u.motion.state = s.motion.state ∧
      u.motion.stepTimer = s.motion.stepTimer ∧ u.motion.stallTimer = s.motion.stallTimer ∧
      u.motion.p = s.motion.p ∧ u.motion.mismatch = s.motion.mismatch ∧ u.resv.held = s.resv.held ∧
      u.dir = s.dir ∧ u.fault = s.fault ∧ u.port.response.status = .done) ∧
    (t = s.motion.p → Completes (.move r) s fun u =>
      u.motion.state = .idle ∧ u.motion.target = none ∧ u.motion.direction = none ∧ u.motion.p = s.motion.p ∧
      u.port.events = placeEvent s.port.events (.moveEnded .arrived s.knownPosition) ∧ u.port.response.status = .done) ∧
    (t ≠ s.motion.p → ¬ ahead → exec (.move r) s = .next (s.replied r .busy (s.positionBytes 0x00#8 0x00#8)))

/-- STOP is answered DONE in every motion state, with the effect of that state (R133, R134, R141). -/
def Obligations.StopEndsWhatTheEngineIsDoing : Prop :=
  ∀ (r : Request) (s : State) (q : RelocRecord), s.takes 0x21#8 r →
    (s.motion.state = .idle ∨ s.motion.state = .unplaced ∨ s.motion.state = .halted →
      exec (.stop r) s = .next (s.replied r .done (s.positionBytes 0x00#8 0x00#8))) ∧
    (s.motion.state = .moving ∨ s.motion.state = .stalled → Completes (.stop r) s fun u =>
      u.motion.state = .idle ∧ u.motion.target = none ∧ u.motion.direction = none ∧ u.motion.need = none ∧
      u.motion.stepTimer = ⟨false, 0⟩ ∧ u.motion.stallTimer = ⟨false, 0⟩ ∧ u.motion.p = s.motion.p ∧
      u.motion.known = s.motion.known ∧ u.motion.stepHigh = s.motion.stepHigh ∧ u.dir = s.dir ∧ u.fault = s.fault ∧
      u.memb.state = s.memb.state ∧ u.resv.held = s.trim.resv.held ∧ u.port.response.status = .done ∧
      u.port.events = placeEvent s.port.events (.moveEnded .stopped s.knownPosition)) ∧
    (s.motion.state = .relocating → s.motion.reloc = some q → Completes (.stop r) s fun u =>
      u.motion.state = .unplaced ∧ u.motion.reloc = none ∧ u.motion.need = none ∧
      u.motion.stepTimer = ⟨false, 0⟩ ∧ u.motion.p = s.motion.p ∧ u.motion.known = s.motion.known ∧
      u.resv.held = s.resv.held ∧ u.dir = s.dir ∧ u.fault = s.fault ∧ u.memb.state = s.memb.state ∧
      u.port.response.status = .done ∧ u.port.events = placeEvent s.port.events (.relocateEnded .stopped q.k))

/-- RELOCATE's tests in order; the data carry the zone field as 255 (R135, R153). -/
def Obligations.RelocateIsRefusedInTheOrderOfItsTests : Prop :=
  ∀ (r : Request) (zone : Byte) (s : State), s.takes 0x22#8 r →
    let u := s.withZone zone
    let pos := s.positionBytes 0xFF#8 0x00#8
    (s.memb.state ≠ .joined → exec (.relocate r zone) s = .next (u.replied r .state pos)) ∧
    (s.memb.state = .joined → (s.motion.state = .idle ∨ s.motion.state = .halted) →
      exec (.relocate r zone) s = .next (u.replied r .state pos)) ∧
    (s.memb.state = .joined → (s.motion.state = .moving ∨ s.motion.state = .stalled ∨ s.motion.state = .relocating) →
      exec (.relocate r zone) s = .next (u.replied r .busy pos)) ∧
    (s.memb.state = .joined → s.motion.state = .unplaced → s.port.cfg.z ≤ zone.toNat →
      exec (.relocate r zone) s = .next (u.replied r .state pos))

/-- RELOCATE with a readable zone k begins from k: it steps at once where H holds the range of the direction, waits in
CLAIMING for the single missing zone where it does not, and ends BLOCKED where neither direction can be had
(R6, R7, R127, R135, R136, R137, R141). -/
def Obligations.RelocateBeginsFromTheZoneRead : Prop :=
  ∀ (r : Request) (zone : Byte) (s : State), s.takes 0x22#8 r → s.memb.state = .joined → s.motion.state = .unplaced →
    zone.toNat < s.port.cfg.z →
    let k := zone.toNat
    let top := min (k + s.port.cfg.w) (s.port.cfg.z - 1)
    let stepping := fun (side : Side) (u : State) =>
      u.motion.state = .relocating ∧ u.motion.stepTimer = ⟨true, 0⟩ ∧ u.motion.need = none ∧
      u.motion.reloc = some { k := k, side := side, phase := .stepping, downTried := false, steps := 0 }
    let claiming := fun (side : Side) (missing : Nat) (u : State) =>
      u.motion.state = .relocating ∧ u.motion.stepTimer.running = false ∧
      u.motion.need = some { side := side, lo := missing, hi := missing } ∧
      u.motion.reloc = some { k := k, side := side, phase := .claiming, downTried := false, steps := 0 }
    let blocked := fun (u : State) =>
      u.motion.state = .unplaced ∧ u.motion.reloc = none ∧
      u.port.events = placeEvent s.port.events (.relocateEnded .blocked k)
    let frame := fun (u : State) =>
      u.resv.held = s.resv.held ∧ u.motion.p = s.motion.p ∧ u.motion.known = s.motion.known ∧ u.dir = s.dir ∧
      u.fault = s.fault ∧ u.memb.state = s.memb.state ∧ u.port.response.status = .done ∧ u.port.response.data.d3 = zone
    let inside := fun (lo hi : Nat) => (ZRange.run lo hi).inside s.resv.held
    (inside k top = false → Completes (.relocate r zone) s fun u => blocked u ∧ frame u) ∧
    (inside k top = true → 1 ≤ k → inside (k - 1) top = true →
      Completes (.relocate r zone) s fun u => stepping .down u ∧ frame u) ∧
    (inside k top = true → 1 ≤ k → inside (k - 1) top = false → s.access.phase ≠ .quiet →
      Completes (.relocate r zone) s fun u => claiming .down (k - 1) u ∧ frame u) ∧
    (inside k top = true → k = 0 → s.port.cfg.z ≤ s.port.cfg.w + 1 →
      Completes (.relocate r zone) s fun u => blocked u ∧ frame u) ∧
    (inside k top = true → k = 0 → s.port.cfg.w + 1 < s.port.cfg.z → inside 0 (s.port.cfg.w + 1) = true →
      Completes (.relocate r zone) s fun u => stepping .up u ∧ frame u) ∧
    (inside k top = true → k = 0 → s.port.cfg.w + 1 < s.port.cfg.z → inside 0 (s.port.cfg.w + 1) = false →
      s.access.phase ≠ .quiet → Completes (.relocate r zone) s fun u => claiming .up (s.port.cfg.w + 1) u ∧ frame u)

/-- EVICT's tests in order, and its effect: the eviction record and the EVICT frame offered, or EVICT_FAILED(INCONCLUSIVE)
at once where the queue takes none (R38, R113, R154). -/
def Obligations.EvictOrdersAnEvictionOfASilentPeer : Prop :=
  ∀ (r : Request) (s : State) (a : Addr), s.takes 0x30#8 r →
    let own := s.straps.address.val
    let entryByte := byte (peerCode (s.entry a).state)
    (s.port.cfg.n ≤ r.arg0.toNat ∨ r.arg0.toNat = own → exec (.evict r) s =
      .next (s.replied r .range ⟨r.arg0, 0x00#8, 0x00#8, 0x00#8, 0x00#8⟩)) ∧
    (r.arg0.toNat = a.val → a.val < s.port.cfg.n → a.val ≠ own →
      (s.memb.state ≠ .joined ∨ (s.entry a).state ≠ .silent → exec (.evict r) s =
        .next (s.replied r .state ⟨r.arg0, entryByte, 0x00#8, 0x00#8, 0x00#8⟩)) ∧
      (s.memb.state = .joined → (s.entry a).state = .silent → s.memb.evict.isSome = true → exec (.evict r) s =
        .next (s.replied r .busy ⟨r.arg0, entryByte, 0x00#8, 0x00#8, 0x00#8⟩)) ∧
      (s.memb.state = .joined → (s.entry a).state = .silent → s.memb.evict = none → Completes (.evict r) s fun t =>
        t.port.response = { seq := r.seq, status := .done, data := ⟨r.arg0, entryByte, 0x00#8, 0x00#8, 0x00#8⟩ } ∧
        t.dir = s.dir ∧ t.resv.held = s.resv.held ∧ t.memb.state = s.memb.state ∧ t.fault = s.fault ∧
        ((offerTo s.access.queue (evictEntry a)).2 ≠ .notQueued →
          t.memb.evict = some { target := a, waiting := false, aliveHeard := false } ∧
          (s.access.phase ≠ .quiet → t.access.queue = (offerTo s.access.queue (evictEntry a)).1 ∧
            t.port.events = s.port.events)) ∧
        ((offerTo s.access.queue (evictEntry a)).2 = .notQueued → t.memb.evict = none ∧
          (s.access.phase ≠ .quiet → t.access.queue = s.access.queue ∧
            t.port.events = placeEvent s.port.events (.evictFailed .inconclusive a)))))

/-- CLEAR_FAULT clears a cause other than EVICTED and releases the engine from HALTED, and is refused otherwise; the data
carry the latch as it stood (R143, R155, R171). -/
def Obligations.ClearFaultClearsTheLatch : Prop :=
  ∀ (r : Request) (s : State), s.takes 0x31#8 r →
    let data := fun (m : MotionState) =>
      (⟨byte (latchCode s.fault.cause), if s.fault.further then 0x01#8 else 0x00#8, byte (modeCode m), 0x00#8, 0x00#8⟩ : Data)
    (s.fault.cause = none ∨ s.fault.cause = some .evicted →
      exec (.clearFault r) s = .next (s.replied r .state (data s.motion.state))) ∧
    (s.fault.cause.isSome = true → s.fault.cause ≠ some .evicted → s.motion.state = .halted →
      Completes (.clearFault r) s fun t =>
        t.fault = { s.fault with cause := none, further := false, intruders := [] } ∧
        t.motion.state = (if s.motion.known then .idle else .unplaced) ∧ t.motion.mismatch = 0 ∧
        t.motion.p = s.motion.p ∧ t.motion.known = s.motion.known ∧ t.motion.need = none ∧
        (s.motion.known = false → t.resv.held = s.resv.held) ∧
        (s.motion.known = true → t.resv.held = s.trim.resv.held) ∧ t.dir = s.dir ∧
        t.memb.state = s.memb.state ∧ t.port.events = s.port.events ∧ t.faultLine = false ∧
        (s.memb.state = .joined → t.driveEn = true) ∧
        t.port.response = { seq := r.seq, status := .done, data := data (if s.motion.known then .idle else .unplaced) })

/-- READ_STATUS reports the state as it stands; part 0 sets the corrupted-frame count to 0, another part number is refused
(R27, R158, R183). -/
def Obligations.ReadStatusReportsTheState : Prop :=
  ∀ (r : Request) (s : State), s.takes 0x40#8 r →
    (r.arg0 = 0x00#8 → exec (.readStatus r) s =
      .next ((s.setLine { s.line with corrupted := 0 }).replied r .done
        ⟨byte (16 * memberCode s.memb.state + modeCode s.motion.state),
          byte (128 * s.motion.known.toNat + 64 * s.fault.further.toNat + 16 * resetCauseCode s.fault.resetCause +
            latchCode s.fault.cause),
          byte s.line.corrupted, byte (64 * claimPhaseCode s.resv.claim + s.port.events.length % 32), 0x00#8⟩)) ∧
    (r.arg0 = 0x01#8 → exec (.readStatus r) s =
      .next (s.replied r .done
        ⟨byte (128 * s.motion.known.toNat + s.motion.p / 65536 % 16), byte (s.motion.p / 256), byte s.motion.p,
          s.resv.held.loByte, s.resv.held.hiByte⟩)) ∧
    (r.arg0 ≠ 0x00#8 → r.arg0 ≠ 0x01#8 → exec (.readStatus r) s =
      .next (s.replied r .range ⟨0x00#8, 0x00#8, 0x00#8, 0x00#8, 0x00#8⟩))

/-- READ_PEER reports one entry, its age in whole multiples of P up to 255, and has no effect (R66, R159). -/
def Obligations.ReadPeerReportsOneEntry : Prop :=
  ∀ (r : Request) (s : State) (a : Addr), s.takes 0x41#8 r →
    let e := s.entry a
    let head := byte (16 * peerCode e.state + modeCode e.mode)
    let age := byte (min 255 (e.age / (s.port.cfg.p * 10000)))
    (s.port.cfg.n ≤ r.arg0.toNat ∨ r.arg0.toNat = s.straps.address.val ∨ 1 < r.arg1.toNat →
      exec (.readPeer r) s = .next (s.replied r .range ⟨0x00#8, 0x00#8, 0x00#8, 0x00#8, 0x00#8⟩)) ∧
    (r.arg0.toNat = a.val → a.val < s.port.cfg.n → a ≠ s.straps.address → r.arg1 = 0x00#8 →
      exec (.readPeer r) s = .next (s.replied r .done ⟨head, age, e.held.loByte, e.held.hiByte, 0x00#8⟩)) ∧
    (r.arg0.toNat = a.val → a.val < s.port.cfg.n → a ≠ s.straps.address → r.arg1 = 0x01#8 →
      exec (.readPeer r) s = .next (s.replied r .done ⟨head, age, e.occupied.loByte, e.occupied.hiByte, 0x00#8⟩))

/-- TAKE_EVENT removes the oldest record and reports it with the number left, or reports NONE; the kind code and the fields
of each kind stand in the five data bytes (R163, R184). -/
def Obligations.TakeEventRemovesTheOldestRecord : Prop :=
  ∀ (r : Request) (s : State) (e : Event) (rest : List Event), s.takes 0x42#8 r →
    let record := fun (code low : Nat) (d2 d3 d4 : Byte) =>
      (⟨byte code, byte (16 * (rest.length % 16) + low), d2, d3, d4⟩ : Data)
    let refusal := fun (x : RefuseReason) => match x with
      | .held => 1
      | .pending => 2
      | .adjacency => 3
      | .stranger => 4
      | .notJoined => 5
      | .occupied => 6
      | .overlap => 7
      | .intrusion => 8
      | .alive => 9
    let reason := fun (x : EventReason) => match x with
      | .refused y => refusal y
      | .noAnswer => 10
      | .inconclusive => 11
      | .neighbourSilent => 12
    let ending := fun (x : EndReason) => match x with
      | .arrived => 1
      | .stopped => 2
      | .blocked => 3
      | .fault => 4
    let cause := fun (x : FaultCause) => match x with
      | .tracking => 1
      | .relocateLimit => 2
      | .intrusion => 3
      | .evicted => 4
    let reset := fun (x : ResetCause) => match x with
      | .powerOn => 1
      | .pin => 2
      | .ordered => 3
    let station := fun (x : Option Addr) => match x with
      | some a => byte a.val
      | none => 0xFF#8
    let positioned := fun (code p : Nat) (d4 : Byte) => record code (p / 65536 % 16) (byte (p / 256)) (byte p) d4
    let data : Data := match e with
      | .resetDone c => record 1 (reset c) 0 0 0
      | .joinDone => record 2 0 0 0 0
      | .joinFailed x a => record 3 (reason x) (station a) 0 0
      | .moveEnded x (some p) => positioned 4 p (byte (ending x))
      | .moveEnded x none => record 4 15 0xFF#8 0xFF#8 (byte (ending x))
      | .relocateDone p z => positioned 5 p (byte z)
      | .relocateEnded x z => record 6 (ending x) 0 (byte z) 0
      | .claimFailed x a z => record 7 (reason x) (station a) (byte z) 0
      | .peerJoined a => record 8 0 (byte a.val) 0 0
      | .peerSilent a => record 9 0 (byte a.val) 0 0
      | .peerBack a => record 10 0 (byte a.val) 0 0
      | .peerEvicted a => record 11 0 (byte a.val) 0 0
      | .evictDone a => record 12 0 (byte a.val) 0 0
      | .evictFailed x a => record 13 (reason x) (byte a.val) 0 0
      | .conflict a z => record 14 0 (byte a.val) (byte z) 0
      | .fault c => record 15 (cause c) 0 0 0
      | .overflow => record 16 0 0 0 0
    (s.port.events = [] → exec (.takeEvent r) s =
      .next (s.replied r .done ⟨0x00#8, 0x00#8, 0x00#8, 0x00#8, 0x00#8⟩)) ∧
    (s.port.events = e :: rest → exec (.takeEvent r) s =
      .next ((s.setPort { s.port with events := rest }).replied r .done data))

/-! ### The line -/

/-- The events of the line outside the characters: a start bit in AWAIT opens an empty burst record and stops the count of
the access unit, one in GAP continues the burst, in an own transmission with the character that followed the last without
idle time and keeps its time, the recessive time in SEEK leads to AWAIT, a long dominant interval in LOW
marks the burst bad, and the return to recessive leads from LOW to GAP (R16, R17, R18, R20, R23, R29, R30). The instants at which
the intervals count are the model's choice (logs 11 and 12), and so is that a start bit in OFF, CHAR or LOW is an event that
does not occur and changes nothing (logs 1 and 10). -/
def Obligations.LineEventsDriveTheReceiver : Prop :=
  ∀ (s : State) (b : Burst),
    (s.line.rx = .await → exec .activity s = .next
      ((s.setLine { s.line with
          rx := .char, lineTimer := ⟨true, 0⟩, crc := 0xFFFF#16,
          burst := some { chars := [], count := 0, bad := false, own := false, mismatch := false } }).setAccess
        (if s.access.phase = .receiving ∨ s.access.phase = .transmitting then s.access
          else { s.access with phase := .receiving, busTimer := ⟨false, 0⟩, slot := none }))) ∧
    (s.line.rx = .gap → s.sending = false →
      exec .activity s = .next (s.setLine { s.line with rx := .char, lineTimer := ⟨true, 0⟩ })) ∧
    (s.line.rx = .gap → s.sending = true → exec .activity s = .next (s.setLine { s.line with rx := .char })) ∧
    (s.line.rx = .off ∨ s.line.rx = .char ∨ s.line.rx = .low → exec .activity s = .next s) ∧
    (s.line.rx = .seek →
      exec .activity s = .next (s.setLine { s.line with lineTimer := ⟨false, 0⟩ }) ∧
      exec .lineReturnsRecessive s = .next (s.setLine { s.line with lineTimer := ⟨true, 0⟩ }) ∧
      Completes .lineIdle s fun t =>
        t.line = { s.line with rx := .await, lineTimer := ⟨false, 0⟩ } ∧ t.access.phase = s.access.phase ∧
        (s.access.phase = .unsynced → t.access.busTimer = ⟨true, max s.c s.line.lineTimer.value⟩) ∧
        t.access.queue = s.access.queue ∧ t.resv.held = s.resv.held ∧ t.port = s.port) ∧
    (s.line.rx = .low →
      exec .lineReturnsRecessive s = .next (s.setLine { s.line with rx := .gap, lineTimer := ⟨true, 0⟩ }) ∧
      (s.line.burst = some b → Completes .lineBreak s fun t =>
        t.line.rx = .low ∧ t.line.burst = some { b with bad := true } ∧ t.line.crc = s.line.crc ∧
        t.access.queue = s.access.queue ∧ t.resv.held = s.resv.held ∧ t.port = s.port))

/-- A character is counted, stored while the buffer has room, fed to the CRC, and marks the burst bad on a parity or
framing error; an own character read back otherwise than sent sets the mismatch flag and ends the transmission with the
character under way (R15, R16, R17, R19, R20, R24). The time of a character and the comparison of a whole one are the model's
choice (logs 12 and 13), and so is that a mismatch without an own character on the line is an event that does not occur and
changes nothing (log 1). -/
def Obligations.CharactersFillTheBurstRecord : Prop :=
  ∀ (data : Byte) (parity stop : Bool) (s : State) (b : Burst), s.line.burst = some b →
    let misread := b.own && match s.line.txChars with
      | [] => false
      | c :: _ => data != c || parity != parityBit c || !stop
    (s.line.rx = .char ∨ s.line.rx = .gap → Completes (.characterReceived data parity stop) s fun t =>
      t.line.burst = some
        { chars := if b.chars.length < 8 then b.chars ++ [data] else b.chars
          count := b.count + 1
          bad := b.bad || parity != parityBit data || !stop
          own := b.own
          mismatch := b.mismatch || misread } ∧
      t.line.rx = (if stop then .gap else .low) ∧ (stop = true → t.line.lineTimer = ⟨true, 0⟩) ∧
      t.line.crc = (if b.chars.length < 8 then crcByte s.line.crc data else s.line.crc) ∧
      t.line.txChars = (if misread then [] else s.line.txChars.tail) ∧ t.line.corrupted = s.line.corrupted ∧
      t.access.phase = s.access.phase ∧ t.access.queue = s.access.queue ∧ t.resv.held = s.resv.held ∧ t.port = s.port) ∧
    (b.own = true → s.line.txChars ≠ [] → exec .readbackMismatch s = .next
      (s.setLine { s.line with burst := some { b with mismatch := true }, txChars := s.line.txChars.take 1 })) ∧
    (b.own = false ∨ s.line.txChars = [] → exec .readbackMismatch s = .next s)

/-- A burst is corrupted exactly when a character was bad, its length is not that of its kind, the CRC register is not 0,
the sender is not below N, the sender is this station in a burst not its own, or an own burst was misread; another burst
is a valid frame of its sender (R19, R21). -/
def Obligations.BurstIsCorruptedOnSixConditions : Prop :=
  ∀ (c : Config) (own : Addr) (b : Burst) (crc : BitVec 16) (c0 : Byte) (rest : List Byte), b.chars = c0 :: rest →
    let code := (c0.extractLsb' 4 4).toNat
    let sender : Addr := Fin.ofNat 16 (c0.extractLsb' 0 4).toNat
    let lengthIsWrong := match kindLength code with
      | some n => decide (b.count ≠ n)
      | none => decide (b.count < 3) || decide (8 < b.count)
    (judgeBurst c own b crc = .corrupted ↔
      b.bad = true ∨ lengthIsWrong = true ∨ crc ≠ 0x0000#16 ∨ c.n ≤ sender.val ∨ (sender = own ∧ b.own = false) ∨
        (b.own = true ∧ b.mismatch = true)) ∧
    (judgeBurst c own b crc ≠ .corrupted →
      judgeBurst c own b crc = .valid sender b.own (parseFrame c.n c.z sender code (rest.take (b.count - 3))))

/-- Encoding and judging agree: the characters of every frame that passes the content check, received whole, are judged
that frame with every field as sent (R19, R20, R21, R22, R181). -/
def Obligations.EveryLegalFrameIsJudgedAsItself : Prop :=
  ∀ (c : Config) (own sender : Addr) (f : Frame), c.z ≤ 240 → sender.val < c.n → f.legal c.n c.z sender = true →
    judgeBurst c own
      { chars := f.chars sender, count := (f.chars sender).length, bad := false, own := decide (sender = own),
        mismatch := false }
      (crcOf (f.chars sender)) = .valid sender (decide (sender = own)) (some f)

/-- A legal frame of a peer arrives whole at a receiver in AWAIT, and until it is judged nothing but the line unit, the
count of the access unit and the clocks change; a receiver in OFF, SEEK or LOW takes no frame (R16, R17, R25, R29; logs 1 and 8). -/
def Obligations.LegalFrameArrivesAtAWaitingReceiver : Prop :=
  ∀ (s : State) (zone : Byte) (sender : Addr) (f : Frame),
    (s.line.rx = .await → s.port.cfg.z ≤ 240 → sender.val < s.port.cfg.n → sender ≠ s.straps.address →
      f.legal s.port.cfg.n s.port.cfg.z sender = true →
      ∃ s1, s.burstIs zone sender false f s1 ∧ s1.pins = { zone := zone } ∧ s1.port = s.port ∧ s1.straps = s.straps ∧
        s1.line.corrupted = s.line.corrupted ∧ s1.line.lineTimer = ⟨true, s.c⟩ ∧
        s1.access.queue = s.access.queue ∧ s1.access.window = s.access.window ∧
        s1.access.inTx = s.access.inTx ∧ s1.resv.held = s.resv.held ∧ s1.resv.claim = s.resv.claim ∧
        s1.memb.state = s.memb.state ∧ s1.memb.join = s.memb.join ∧ s1.memb.evict = s.memb.evict ∧
        s1.memb.target = s.memb.target ∧ s1.motion.state = s.motion.state ∧ s1.motion.p = s.motion.p ∧
        s1.motion.known = s.motion.known ∧ s1.motion.need = s.motion.need ∧ s1.fault.cause = s.fault.cause ∧
        s1.dir.eviction = s.dir.eviction ∧
        ∀ a, (s1.entry a).state = (s.entry a).state ∧ (s1.entry a).held = (s.entry a).held ∧
          (s1.entry a).occupied = (s.entry a).occupied ∧ (s1.entry a).mode = (s.entry a).mode) ∧
    (s.line.rx = .off ∨ s.line.rx = .seek ∨ s.line.rx = .low → exec (f.command sender zone) s = .next s ∧
      exec (.corruptedFrame zone) s = .next s)

/-! ### Frames delivered -/

/-- A range is clipped against H by taking the zones of H out of it: what remains below or above is left, and of two parts
the one on the side of the carriage. A valid PRESENCE from a peer: its entry goes to PRESENT with the announced ranges, the
held range clipped against H, the mode, and age 0; the events follow the entry's former state, the clip and the intrusion. A carriage inside H is an
intrusion, which ends a move or relocate, unless the peer is among the reported intruders already. A change of the entry's
state or held range re-arms a reservation unit that watches the peer (R50, R51, R52, R53, R63, R75, R142, R167). The order
of the effects of the units is the model's choice (log 22). -/
def Obligations.PresenceUpdatesTheSendersEntry : Prop :=
  ∀ (s s1 : State) (zone : Byte) (sender : Addr) (held occupied : ZRange) (mode : MotionState) (lo hi alo ahi : Nat),
    let own := ZRange.run lo hi
    let told := ZRange.run alo ahi
    let clipped := clip own told occupied
    let carriageAbove := match occupied with | .run olo _ => hi < olo | .empty => False
    (clip .empty held occupied = held ∧ clip own .empty occupied = .empty ∧
      (told.overlaps own = false → clipped = told) ∧
      (told.overlaps own = true → lo ≤ alo → ahi ≤ hi → clipped = .empty) ∧
      (told.overlaps own = true → alo < lo → ahi ≤ hi → clipped = .run alo (lo - 1)) ∧
      (told.overlaps own = true → lo ≤ alo → hi < ahi → clipped = .run (hi + 1) ahi) ∧
      (told.overlaps own = true → alo < lo → hi < ahi → carriageAbove → clipped = .run (hi + 1) ahi) ∧
      (told.overlaps own = true → alo < lo → hi < ahi → ¬ carriageAbove → clipped = .run alo (lo - 1))) ∧
    (s.burstIs zone sender false (.presence held occupied mode) s1 → s1.access.window.unclosedBy sender →
    let h := s1.resv.held
    let fields : PeerEntry :=
      { state := (s1.entry sender).state, held := clip h held occupied, occupied := occupied, mode := mode, age := 0 }
    let news := (match s1.standing sender with
        | .absent => [Event.peerJoined sender]
        | .joining => [Event.peerJoined sender]
        | .silent => [Event.peerBack sender]
        | .present => []
        | .evicting => []) ++
      (match (held.zonesFrom .down).find? h.has with
        | some z => [Event.conflict sender z]
        | none => [])
    let intrudes := occupied.overlaps h = true
    let rearms := (s1.standing sender ≠ .present ∨ (s1.entry sender).held ≠ clip h held occupied) ∧
      s1.resv.rearm.waiting = true ∧ (s1.resv.rearm.watched = [] ∨ sender ∈ s1.resv.rearm.watched)
    Completes (.presenceFrame sender held occupied mode zone) s fun t =>
      CountRestarted s1 t sender ∧ t.access.window = s1.access.window.after sender ∧ t.resv.held = h ∧
      t.memb = s1.memb ∧ (∀ a, a ≠ sender → t.entry a = s1.entry a) ∧
      ((s1.entry sender).state ≠ .evicting → t.entry sender = { fields with state := .present } ∧
        t.dir.eviction = s1.dir.eviction) ∧
      (∀ r, r ∈ s1.dir.eviction.toList → r.target = sender → (s1.entry sender).state = .evicting →
        t.entry sender = fields ∧ t.dir.eviction = some { r with returnState := .present }) ∧
      (¬ intrudes → t.fault = s1.fault ∧ t.motion = s1.motion ∧ t.port.events = placeEvents s1.port.events news) ∧
      (intrudes → sender ∉ s1.fault.intruders → t.motion.state = .halted ∧
        t.fault = { s1.fault with
          cause := some (s1.fault.cause.getD .intrusion), further := s1.fault.further || s1.fault.cause.isSome,
          intruders := s1.fault.intruders ++ [sender] } ∧
        t.port.events = placeEvents s1.port.events (news ++ .fault .intrusion :: s1.endedByFault)) ∧
      (intrudes → LatchLaw s1.fault → sender ∈ s1.fault.intruders → t.fault = s1.fault ∧ t.motion = s1.motion ∧
        t.port.events = placeEvents s1.port.events news) ∧
      (rearms → t.resv.rearm = { waiting := false, watched := [], timer := ⟨false, 0⟩ }) ∧
      (rearms → ¬ intrudes → s1.motion.need.isSome = true → s1.claimInFlight = false → s1.memb.state = .joined →
        t.resv.claim = some freshClaim) ∧
      (¬ rearms → t.resv.rearm = s1.resv.rearm))

/-- A CLAIM from a peer that finds no window open opens one and is answered: the addressee refuses with NOT_JOINED,
STRANGER or ADJACENCY in that order, and grants the leading part of the range that lies outside H and its pending range or
refuses with PENDING or HELD; another JOINED station refuses what overlaps H or its pending range, and a LISTENING or
DETACHED one what overlaps the zones its carriage may stand in. ADJACENCY is a claim from elsewhere than the gap between the
claimant's extent and H; the pending range is what a claim in WAITING asks for, or one in QUEUED would ask for now
(R40, R57, R89, R90, R91, R92, R93, R94). -/
def Obligations.ClaimOpensAWindowAndIsAnswered : Prop :=
  ∀ (s s1 : State) (zone : Byte) (sender addressee : Addr) (tag : Tag) (side : Side) (unopposed : Bool) (lo hi : Nat),
    let range := ZRange.run lo hi
    s.burstIs zone sender false (.claim addressee tag side unopposed range) s1 → s1.access.window.isOpen = false →
    s1.access.queue.length ≤ 4 →
    let h := s1.resv.held
    let lost := fun (a : Addr) => (s1.entry a).state == .silent || (s1.entry a).state == .evicting
    let pend : ZRange := match s1.resv.claim with
      | none => .empty
      | some r => match r.phase with
        | .concluded => .empty
        | .waiting => r.requested
        | .queued => match s1.motion.need with
          | none => .empty
          | some n =>
            if (s1.neighbour h n.side).any lost then .empty
            else (ZRange.run n.lo n.hi).leadingPart (match n.side with | .up => .down | .down => .up) fun z =>
              !s1.taken z
    let e := s1.entry sender
    let extent := match e.state with
      | .absent => ZRange.empty
      | .joining => e.occupied
      | .present => e.held
      | .silent => e.held
      | .evicting => e.held
    let gap := h = .empty ∨ extent = .empty ∨
      (side = .up ∧ (extent.below h = false ∨ range.above h = true ∨
        ∃ a, a ∈ allAddrs ∧ a ≠ sender ∧ (s1.extent a).above extent = true ∧ (s1.extent a).below h = true)) ∨
      (side = .down ∧ (extent.above h = false ∨ range.below h = true ∨
        ∃ a, a ∈ allAddrs ∧ a ≠ sender ∧ (s1.extent a).above h = true ∧ (s1.extent a).below extent = true))
    let first := match side with | .up => lo | .down => hi
    let lead := range.leadingPart (match side with | .up => .down | .down => .up) fun z => !h.has z && !pend.has z
    let asked := unopposed = false ∧ addressee = s1.straps.address
    let joined := s1.memb.state = .joined
    let absent := e.state = .absent
    let answered := fun (f : Frame) (t : State) =>
      answerEntry f { originator := sender, kind := .claim } ∈ t.access.queue
    let refused := fun (reason : RefuseReason) => answered (.refuse sender tag reason)
    Completes (.claimFrame sender addressee tag side unopposed range zone) s fun t =>
      CountRestarted s1 t sender ∧ DeliveredOnly s1 t ∧ OnlyAgeReset s1 t sender ∧
      t.access.window = Window.opened s1.port.cfg.n sender .claim ∧
      (asked → ¬ joined → refused .notJoined t) ∧
      (asked → joined → absent → refused .stranger t) ∧
      (asked → joined → ¬ absent → gap → refused .adjacency t) ∧
      (asked → joined → ¬ absent → ¬ gap → lead ≠ .empty → answered (.grant sender tag lead) t) ∧
      (asked → joined → ¬ absent → ¬ gap → lead = .empty → pend.has first = true → refused .pending t) ∧
      (asked → joined → ¬ absent → ¬ gap → lead = .empty → pend.has first = false → refused .held t) ∧
      (¬ asked → joined → range.overlaps h = true → refused .held t) ∧
      (¬ asked → joined → range.overlaps h = false → range.overlaps pend = true → refused .pending t) ∧
      (¬ asked → s1.memb.state = .listening ∨ s1.memb.state = .detached → zone.toNat < s1.port.cfg.z →
        (ZRange.run zone.toNat (min (zone.toNat + s1.port.cfg.w) (s1.port.cfg.z - 1))).overlaps range = true →
        refused .occupied t)

/-- A peer's CLAIM, JOIN or EVICT that finds a window open closes it SUPERSEDED and opens its own, and a JOINED station, or
one that joins still, answers with REFUSE(OVERLAP), carrying the claim's tag or 0. The close makes this station's own claim
or join in the window INCONCLUSIVE, returns the target of an eviction to its state, and fails an eviction this station
ordered (R44, R62, R82, R84, R86, R87, R108, R110, R114). The order of the effects of the units is the model's choice
(log 22). -/
def Obligations.SupersedingFrameIsAnsweredWithOverlap : Prop :=
  ∀ (s s1 : State) (zone : Byte) (sender o : Addr) (f : Frame) (kind opened : WindowKind) (tag : Tag) (q : ClaimRecord)
    (side : Side) (j : JoinRecord) (v : EvictionPending) (x : EvictRecord),
    s.burstIs zone sender false f s1 → s1.access.window.isOpen = true → s1.access.window.originator = some o →
    s1.access.window.kind = some opened → opensWindow f = some (kind, tag) → s1.access.queue.length ≤ 3 →
    let own := o = s1.straps.address
    let outside := (match f with | .join _ r => !r.overlaps s1.resv.held | _ => true) = true
    let answered := fun (t : State) =>
      answerEntry (.refuse sender tag .overlap) { originator := sender, kind := kind } ∈ t.access.queue
    Completes (f.command sender zone) s fun t =>
      CountRestarted s1 t sender ∧ t.access.window = Window.opened s1.port.cfg.n sender kind ∧
      (s1.memb.state = .joined → s1.memb.join = none → answered t ∧ t.memb.state = .joined) ∧
      (own → opened = .claim → s1.claimWaiting = true → t.access.ownWindow = false ∧ t.claimWaiting = false) ∧
      (own → opened = .claim → s1.awaitsClaim q side → outside → ClaimFails s1 t q side .inconclusive) ∧
      (own → opened = .join → s1.memb.state = .joining → s1.memb.join = some j → j.phase = .waiting →
        JoinAttemptFails s1 t j .inconclusive ∧ (j.attempt < 4 → answered t)) ∧
      (opened = .evict → kind = .claim → s1.dir.eviction = some v → EvictionReturns s1 t v) ∧
      (own → opened = .evict → outside → s1.memb.evict = some x → x.waiting = true → EvictFails s1 t x .inconclusive)

/-- A GRANT: the waiting claim records it when it names this station, carries its tag, comes from its addressee and grants
a leading part of the requested range, the first such only; a peer that is granted zones is recorded with them. A grant
that is the last answer of the window is recorded before the window closes COMPLETE and the claim concludes with it
(R41, R50, R54, R81, R82, R83). -/
def Obligations.GrantIsRecorded : Prop :=
  ∀ (s s1 : State) (zone : Byte) (sender claimant : Addr) (tag : Tag) (glo ghi : Nat) (r : ClaimRecord) (side : Side),
    let g := ZRange.run glo ghi
    s.burstIs zone sender false (.grant claimant tag g) s1 →
    let ownOpen := s1.access.window.isOpen = true ∧ s1.access.window.originator = some s1.straps.address ∧
      s1.access.window.kind = some .claim
    let leads := match r.side.getD .down, r.requested with
      | .up, .run lo hi => decide (glo = lo) && decide (ghi ≤ hi)
      | .down, .run lo hi => decide (ghi = hi) && decide (lo ≤ glo)
      | _, .empty => false
    let named := claimant = s1.straps.address
    let taken := r.phase = .waiting ∧ ownOpen ∧ named ∧ r.tag = some tag ∧ r.addressee = some sender ∧ leads = true ∧
      r.grant = none
    (s1.access.window.unclosedBy sender → Completes (.grantFrame sender claimant tag g zone) s fun t =>
      CountRestarted s1 t sender ∧ t.access.window = s1.access.window.after sender ∧ t.resv.held = s1.resv.held ∧
      t.memb = s1.memb ∧ t.motion = s1.motion ∧ t.fault = s1.fault ∧
      (s1.resv.claim = some r → taken → t.resv.claim = some { r with grant := some g }) ∧
      (s1.resv.claim = some r → named → ¬ taken → t.resv.claim = some r) ∧
      (s1.resv.claim = none → named → t.resv.claim = none) ∧
      (named → OnlyAgeReset s1 t sender) ∧
      (¬ named → GrantStands s1 t claimant g ∧
        ∀ a, a ≠ claimant → t.entry a = if a = sender then { s1.entry a with age := 0 } else s1.entry a)) ∧
    (s1.access.window.closedBy sender → s1.resv.claim = some r → taken → r.refusal = none → r.inconclusive = false →
      r.orphaned = false → r.side = some side → s1.overlapping g = [] → g.adjacent s1.resv.held side = true →
      Completes (.grantFrame sender claimant tag g zone) s fun t =>
        CountRestarted s1 t sender ∧ t.access.window = s1.access.window.ended .complete ∧
        t.resv.held = s1.resv.held.span g ∧ t.resv.attempt = 1 ∧ t.resv.attemptSide = none ∧
        t.access.ownWindow = false ∧ t.claimWaiting = false ∧ t.port.events = s1.port.events)

/-- A REFUSE is taken by the claim, the join or the eviction that waits for it: a claim records the first refusal of its tag
with the refuser, a join records the first INTRUSION with its sender and sets the overlap flag on OVERLAP, and the target's
REFUSE(ALIVE) with tag 0 sets the alive-heard flags. One that is the last answer of the window is taken before the window
closes COMPLETE: the refused claim fails, and the eviction is not applied (R41, R57, R61, R62, R81, R82, R84, R86, R104,
R114, R181). That the directory looks at the tag as the membership unit does is the model's choice (log 38). -/
def Obligations.RefuseIsRecorded : Prop :=
  ∀ (s s1 : State) (zone : Byte) (sender answered : Addr) (tag : Tag) (reason : RefuseReason) (r : ClaimRecord)
    (q : JoinRecord) (side : Side) (v : EvictionPending) (x : EvictRecord),
    s.burstIs zone sender false (.refuse answered tag reason) s1 →
    let ownOpen := fun (kind : WindowKind) => s1.access.window.isOpen = true ∧
      s1.access.window.originator = some s1.straps.address ∧ s1.access.window.kind = some kind
    let named := answered = s1.straps.address
    let takenByClaim := r.phase = .waiting ∧ ownOpen .claim ∧ named ∧ r.tag = some tag ∧ r.refusal = none
    let takenByJoin := q.phase = .waiting ∧ ownOpen .join ∧ named ∧ tag = 0
    let alive := fun (target : Addr) => s1.access.window.isOpen = true ∧
      s1.access.window.originator = some answered ∧ s1.access.window.kind = some .evict ∧ sender = target ∧ tag = 0 ∧
      reason = .alive
    let takenByEvict := x.waiting = true ∧ named ∧ alive x.target
    let done : List Event := match s1.dir.eviction with
      | none => []
      | some y => if alive y.target ∨ y.aliveHeard = true ∨ y.returnState = .absent then [] else [.peerEvicted y.target]
    (s1.access.window.unclosedBy sender → Completes (.refuseFrame sender answered tag reason zone) s fun t =>
      CountRestarted s1 t sender ∧ t.access.window = s1.access.window.after sender ∧ t.resv.held = s1.resv.held ∧
      t.motion = s1.motion ∧ t.fault = s1.fault ∧ t.port = s1.port ∧ t.memb.state = s1.memb.state ∧
      t.memb.target = s1.memb.target ∧
      (∀ a, t.entry a = if a = sender then { s1.entry a with age := 0 } else s1.entry a) ∧
      (s1.resv.claim = some r → takenByClaim →
        t.resv.claim = some { r with refusal := some reason, refuser := some sender }) ∧
      (s1.resv.claim = some r → ¬ takenByClaim → t.resv.claim = some r) ∧
      (s1.memb.join = some q → takenByJoin → t.memb.join = some (match reason with
        | .intrusion => { q with intrusion := some (q.intrusion.getD sender) }
        | .overlap => { q with overlap := true }
        | _ => q)) ∧
      (s1.memb.join = some q → ¬ takenByJoin → t.memb.join = some q) ∧
      (s1.dir.eviction = some v → alive v.target → t.dir.eviction = some { v with aliveHeard := true }) ∧
      (s1.dir.eviction = some v → ¬ alive v.target → t.dir.eviction = some v) ∧
      (s1.memb.evict = some x → takenByEvict → t.memb.evict = some { x with aliveHeard := true }) ∧
      (s1.memb.evict = some x → ¬ takenByEvict → t.memb.evict = some x)) ∧
    (s1.access.window.closedBy sender → s1.access.queue.length ≤ 4 →
      Completes (.refuseFrame sender answered tag reason zone) s fun t =>
        CountRestarted s1 t sender ∧ t.access.window = s1.access.window.ended .complete ∧
        (s1.awaitsClaim r side → takenByClaim → r.inconclusive = false →
          ClaimFails s1 t r side (.refused reason) ∧
          (r.orphaned = false → s1.resv.attempt < 4 → reason ≠ .overlap → t.resv.rearm.waiting = true ∧
            t.resv.rearm.timer = ⟨true, 0⟩)) ∧
        (s1.dir.eviction = some v → alive v.target → EvictionReturns s1 t v) ∧
        (s1.memb.evict = some x → takenByEvict → t.memb.evict = none ∧ t.memb.state = s1.memb.state ∧
          t.port.events = placeEvents s1.port.events (done ++ [.evictFailed (.refused .alive) x.target])) ∧
        (s1.memb.evict = some x → takenByEvict → (∀ y, y ∈ s1.dir.eviction.toList → y.target = x.target) →
          EvictFails s1 t x (.refused .alive)))

/-- A valid RELEASE removes the released zones at an edge of the sender's recorded range; nothing else of the entry but its
age changes, and no other entry (R55). -/
def Obligations.ReleaseShrinksTheSendersEntry : Prop :=
  ∀ (s s1 : State) (zone : Byte) (sender : Addr) (range : ZRange),
    s.burstIs zone sender false (.release range) s1 → s1.access.window.unclosedBy sender →
    Completes (.releaseFrame sender range zone) s fun t =>
      CountRestarted s1 t sender ∧ t.access.window = s1.access.window.after sender ∧
      t.entry sender = { s1.entry sender with held := (s1.entry sender).held.remove range, age := 0 } ∧
      (∀ a, a ≠ sender → t.entry a = s1.entry a) ∧ t.dir.eviction = s1.dir.eviction ∧
      t.resv.held = s1.resv.held ∧ t.memb = s1.memb ∧ t.motion = s1.motion ∧ t.fault = s1.fault ∧ t.port = s1.port

/-- A JOIN that finds no window open opens one. Outside H it records a JOINING peer, and a JOINED neighbour owes it a RECALL
with its bound; over H it leaves the entry, and a JOINED station refuses it with INTRUSION and latches the fault
(R40, R56, R105, R106). -/
def Obligations.JoinIsRecordedAndAnswered : Prop :=
  ∀ (s s1 : State) (zone : Byte) (sender : Addr) (attempt jlo jhi hlo hhi : Nat),
    let j := ZRange.run jlo jhi
    s.burstIs zone sender false (.join attempt j) s1 → s1.access.window.isOpen = false →
    (s1.entry sender).state ≠ .evicting → s1.access.queue.length ≤ 4 →
    let e := s1.entry sender
    let intrudes := j.overlaps s1.resv.held = true
    let joined := s1.memb.state = .joined
    let low := match e.held with | .run lo _ => min lo jlo | .empty => jlo
    let high := match e.held with | .run _ hi => max hi jhi | .empty => jhi
    let answered := fun (f : Frame) (t : State) =>
      answerEntry f { originator := sender, kind := .join } ∈ t.access.queue
    Completes (.joinFrame sender attempt j zone) s fun t =>
      CountRestarted s1 t sender ∧ t.access.window = Window.opened s1.port.cfg.n sender .join ∧
      t.resv.held = s1.resv.held ∧ t.memb = s1.memb ∧ (∀ a, a ≠ sender → t.entry a = s1.entry a) ∧
      (¬ intrudes → t.entry sender = { e with state := .joining, occupied := j, mode := .unplaced, age := 0 } ∧
        t.motion = s1.motion ∧ t.fault = s1.fault ∧ t.port = s1.port) ∧
      (intrudes → t.entry sender = { e with age := 0 }) ∧
      (intrudes → joined → answered (.refuse sender 0 .intrusion) t ∧ t.fault.cause.isSome = true ∧
        sender ∈ t.fault.intruders) ∧
      (s1.resv.held = .run hlo hhi → joined → hhi < jlo → (s1.between (.run hlo hhi) j sender) = [] →
        answered (.recall sender .down (if low ≤ hhi then hhi + 1 else low)) t) ∧
      (s1.resv.held = .run hlo hhi → joined → hhi ≥ jlo → jhi < hlo → (s1.between j (.run hlo hhi) sender) = [] →
        answered (.recall sender .up (if hlo ≤ high then hlo - 1 else high)) t)

/-- A RECALL that names this station in its open JOIN window gives its side a bound, the tighter of two, and marks the
expected neighbour heard; a bound inside J is passed over. One that is the last answer of the window is taken before the
window closes COMPLETE and the join adopts with its bound (R41, R57, R104, R108, R109, R111). -/
def Obligations.RecallBoundsTheJoin : Prop :=
  ∀ (s s1 : State) (zone : Byte) (sender joiner : Addr) (side : Side) (bound jlo jhi : Nat) (q : JoinRecord),
    s.burstIs zone sender false (.recall joiner side bound) s1 →
    s1.memb.join = some q → q.occupied = .run jlo jhi →
    let taken := q.phase = .waiting ∧ joiner = s1.straps.address ∧ s1.access.window.isOpen = true ∧
      s1.access.window.originator = some s1.straps.address ∧ s1.access.window.kind = some .join
    let low := match q.lowBound with | none => bound | some b => max b bound
    let high := match q.highBound with | none => bound | some b => min b bound
    (s1.access.window.unclosedBy sender → Completes (.recallFrame sender joiner side bound zone) s fun t =>
      CountRestarted s1 t sender ∧ t.access.window = s1.access.window.after sender ∧ OnlyAgeReset s1 t sender ∧
      t.resv = s1.resv ∧ t.motion = s1.motion ∧ t.fault = s1.fault ∧ t.port = s1.port ∧
      t.memb = { s1.memb with join := t.memb.join } ∧
      (taken → side = .down → bound ≤ jlo → t.memb.join = some
        { q with lowBound := some low, lowHeard := q.lowHeard || q.expectedLower == some sender }) ∧
      (taken → side = .up → jhi ≤ bound → t.memb.join = some
        { q with highBound := some high, highHeard := q.highHeard || q.expectedUpper == some sender }) ∧
      (¬ taken ∨ (side = .down ∧ jlo < bound) ∨ (side = .up ∧ bound < jhi) → t.memb.join = some q)) ∧
    (let adopted := match side with
      | .down => ZRange.run low (q.highBound.getD jhi)
      | .up => ZRange.run (q.lowBound.getD jlo) high
    let heard := match side with
      | .down => (q.lowHeard = true ∨ q.expectedLower = some sender ∨ q.expectedLower = none) ∧ bound ≤ jlo ∧
          (q.highHeard = true ∨ q.expectedUpper = none)
      | .up => (q.highHeard = true ∨ q.expectedUpper = some sender ∨ q.expectedUpper = none) ∧ jhi ≤ bound ∧
          (q.lowHeard = true ∨ q.expectedLower = none)
    s1.access.window.closedBy sender → taken → q.intrusion = none → q.overlap = false → heard →
      s1.overlapping adopted = [] → Completes (.recallFrame sender joiner side bound zone) s fun t =>
        CountRestarted s1 t sender ∧ t.access.window = s1.access.window.ended .complete ∧
        t.memb.state = .joined ∧ t.memb.join = none ∧ t.resv.held = adopted ∧ t.access.ownWindow = false ∧
        t.memb.presenceDue = true ∧ t.memb.presenceTimer = ⟨true, 0⟩ ∧
        t.port.events = placeEvent s1.port.events .joinDone)

/-- An EVICT that finds no window open opens one. Its target's entry goes EVICTING, its held range clipped against H, with
its state kept for the return; a JOINED target objects with REFUSE(ALIVE), and one in another state passes it over
(R40, R58, R115). -/
def Obligations.EvictMarksItsTarget : Prop :=
  ∀ (s s1 : State) (zone : Byte) (sender target : Addr),
    s.burstIs zone sender false (.evict target) s1 → s1.access.window.isOpen = false → s1.access.queue.length ≤ 4 →
    let e := s1.entry target
    let own := target = s1.straps.address
    Completes (.evictFrame sender target zone) s fun t =>
      CountRestarted s1 t sender ∧ t.access.window = Window.opened s1.port.cfg.n sender .evict ∧
      t.resv.held = s1.resv.held ∧ t.motion = s1.motion ∧ t.fault = s1.fault ∧ t.port = s1.port ∧
      t.memb = { s1.memb with target := t.memb.target } ∧
      (¬ own → t.entry target = { e with state := .evicting, held := clip s1.resv.held e.held e.occupied } ∧
        t.dir.eviction = some { target := target, returnState := e.state, aliveHeard := false } ∧
        t.memb = s1.memb ∧
        ∀ a, a ≠ target → t.entry a = if a = sender then { s1.entry a with age := 0 } else s1.entry a) ∧
      (own → OnlyAgeReset s1 t sender) ∧
      (own → s1.memb.state = .joined → t.memb.target = some { originator := sender, sent := false } ∧
        answerEntry (.refuse sender 0 .alive) { originator := sender, kind := .evict } ∈ t.access.queue) ∧
      (own → s1.memb.state ≠ .joined → t.memb = s1.memb)

/-- A valid frame of kind UNDEFINED is delivered: the count restarts, its sender's age is 0 and its sender is heard; it has
no other effect. From the last address unheard it closes the window COMPLETE, which takes the answers bound to it out of the
queue and touches no unit of a station that did not open it (R22, R25, R41, R43, R57). -/
def Obligations.UndefinedFrameOnlyIsHeard : Prop :=
  ∀ (s s1 : State) (zone : Byte) (sender o : Addr) (kind : WindowKind) (chars : List Byte),
    (s.withZone zone).burstEnd (withCrc chars) = some s1 → s1.judgement = some (.valid sender false none) →
    (s1.access.window.unclosedBy sender → Completes (.undefinedFrame chars zone) s fun t =>
      CountRestarted s1 t sender ∧ t.access.window = s1.access.window.after sender ∧ DeliveredOnly s1 t ∧
      OnlyAgeReset s1 t sender) ∧
    (s1.access.window.closedBy sender → s1.access.window.originator = some o → s1.access.window.kind = some kind →
      Completes (.undefinedFrame chars zone) s fun t =>
        CountRestarted s1 t sender ∧ t.access.window = s1.access.window.ended .complete ∧
        (o ≠ s1.straps.address → kind ≠ .evict → DeliveredOnly s1 t ∧ OnlyAgeReset s1 t sender ∧
          ∀ e, e ∈ t.access.queue → e.answers ≠ some { originator := o, kind := kind }) ∧
        (o = s1.straps.address → t.claimWaiting = (s1.claimWaiting && kind != .claim)))

/-- A corrupted frame is counted up to 255, sets the rotation base to N − 1, and cuts the open window: the station's own
claim or join in it is INCONCLUSIVE, the target of an eviction has its state back, an eviction this station ordered fails,
and a JOINED target of an eviction whose objection has not been sent takes itself off the rail (R27, R31, R42, R62, R80,
R82, R84, R86, R108, R110, R114, R116). What the corrupted frame brings, and the order of the effects of the units, are the
model's choice (logs 9 and 22). -/
def Obligations.CorruptedFrameCutsTheWindow : Prop :=
  ∀ (s s1 : State) (zone : Byte) (o : Addr) (kind : WindowKind) (r : TargetRecord) (q : ClaimRecord) (side : Side)
    (j : JoinRecord) (v : EvictionPending) (x : EvictRecord),
    (s.withZone zone).burstEndBad = some s1 → s1.judgement = some .corrupted → s1.ownBurst = false →
    let w := s1.access.window
    let known := w.originator = some o ∧ w.kind = some kind
    let own := o = s1.straps.address
    let short := s1.access.queue.length ≤ 4
    Completes (.corruptedFrame zone) s fun t =>
      t.line.corrupted = min 255 (s1.line.corrupted + 1 - s1.line.corrupted / 255) ∧
      (w.isOpen = false → CountRestarted s1 t (Fin.ofNat 16 (s1.port.cfg.n - 1)) ∧ t.access.window = w ∧
        t.resv = s1.resv ∧ t.memb = s1.memb ∧ t.dir = s1.dir ∧ t.motion = s1.motion ∧ t.fault = s1.fault ∧
        t.port = s1.port) ∧
      (w.isOpen = true → known → s1.memb.target = none ∨ kind ≠ .evict →
        CountRestarted s1 t (Fin.ofNat 16 (s1.port.cfg.n - 1)) ∧ t.access.window = w.ended .cut) ∧
      (w.isOpen = true → known → kind = .claim → own → s1.resv.claim = some q → q.phase = .waiting →
        t.claimWaiting = false ∧ t.access.ownWindow = false ∧ t.memb = s1.memb ∧ t.dir = s1.dir) ∧
      (w.isOpen = true → known → kind = .claim → own → s1.awaitsClaim q side → short →
        ClaimFails s1 t q side .inconclusive) ∧
      (w.isOpen = true → known → kind = .join → own → s1.memb.join = some j → j.phase = .waiting →
        JoinAttemptFails s1 t j .inconclusive) ∧
      (w.isOpen = true → known → kind = .evict → s1.dir.eviction = some v → EvictionReturns s1 t v) ∧
      (w.isOpen = true → known → kind = .evict → own → s1.memb.target = none → s1.memb.evict = some x →
        x.waiting = true → EvictFails s1 t x .inconclusive) ∧
      (w.isOpen = true → known → kind = .evict → s1.memb.target = some r → r.sent = true →
        t.memb.state = s1.memb.state ∧ t.memb.target = none ∧ t.resv.held = s1.resv.held) ∧
      (w.isOpen = true → known → kind = .evict → s1.memb.target = some r → r.sent = false →
        s1.memb.state = .joined → t.memb.state = .evicted ∧ t.resv.held = .empty ∧ t.resv.claim = none ∧
        t.fault.cause = some .evicted ∧ t.motion.state = .halted ∧ t.motion.known = false ∧ t.line.rx = .off ∧
        t.access.phase = .unsynced ∧ t.access.queue = [] ∧ t.access.window.isOpen = false ∧ t.driveEn = false)

/-- A frame of this station's own that was sent, in an open window or in none: its transmission ends; a PRESENCE is no
longer due and its timer restarts, a CLAIM, JOIN or EVICT opens its own window, the eviction it orders waits, a REFUSE(ALIVE)
is marked sent, and a GRANT stands in the claimant's entry. The station is heard in an open window; no other own frame
changes the directory (R36, R40, R41, R50, R54, R112, R114, R115). -/
def Obligations.OwnFrameSentIsActedOn : Prop :=
  ∀ (s s1 : State) (zone : Byte) (f : Frame) (x : EvictRecord) (y : TargetRecord),
    let own := s1.straps.address
    let w := s1.access.window
    s.burstIs zone own true f s1 → w.unclosedBy own → (opensWindow f).isNone = true ∨ w.isOpen = false →
    Completes (f.command own zone) s fun t =>
      CountRestarted s1 t own ∧ t.access.inTx = none ∧ t.resv.held = s1.resv.held ∧ t.motion = s1.motion ∧
      t.fault = s1.fault ∧ t.memb.state = s1.memb.state ∧
      t.access.window = (match opensWindow f with
        | some (kind, _) => Window.opened s1.port.cfg.n own kind
        | none => w.after own) ∧
      (match f with
        | .presence _ _ _ => t.memb = { s1.memb with presenceDue := false, presenceTimer := ⟨true, 0⟩ } ∧ t.dir = s1.dir
        | .evict target => (s1.memb.evict = some x →
            t.memb.evict = some { x with waiting := true, aliveHeard := false }) ∧
            (s1.isPeer target = true → t.dir.eviction =
              some { target := target, returnState := (s1.entry target).state, aliveHeard := false })
        | .grant claimant _ g => t.memb = s1.memb ∧ GrantStands s1 t claimant g ∧
            ∀ a, a ≠ claimant → t.entry a = s1.entry a
        | .refuse _ _ reason => t.resv = s1.resv ∧ t.dir.entries = s1.dir.entries ∧
            ((∀ v, v ∈ s1.dir.eviction.toList → v.target ≠ own) → t.dir.eviction = s1.dir.eviction) ∧
            (reason = .alive → s1.memb.target = some y → t.memb = { s1.memb with target := some { y with sent := true } }) ∧
            (reason ≠ .alive → t.memb = s1.memb)
        | .claim _ _ _ _ _ => t.memb = s1.memb ∧ t.dir = s1.dir ∧ t.resv = s1.resv
        | .release _ => t.memb = s1.memb ∧ t.dir = s1.dir ∧ t.resv = s1.resv
        | .join _ _ => t.memb = s1.memb ∧ t.dir = s1.dir ∧ t.resv = s1.resv
        | .recall _ _ _ => t.memb = s1.memb ∧ t.dir = s1.dir ∧ t.resv = s1.resv)

/-- A frame of this station's own that was lost: its transmission ends, and no answer is queued anew. Of the frames that no
window was open to, a CLAIM concludes INCONCLUSIVE with H as it was and a RELEASE, a JOIN goes on to its next attempt or
fails, an ordered eviction fails INCONCLUSIVE, a PRESENCE is offered again, and a GRANT, REFUSE, RECALL or RELEASE leaves the
queue as it was but for what waits to be offered. An answer lost in its own open window is cut with it: nothing more happens
in the window of another's claim or join, and a JOINED station whose REFUSE(ALIVE) was lost takes itself off the rail
(R24, R36, R42, R43, R80, R82, R84, R86, R103, R108, R112, R114, R115, R116). What the corrupted frame brings, an own
character's being spoiled by a mismatch among it, is the model's choice (log 9). -/
def Obligations.OwnFrameLostIsActedOn : Prop :=
  ∀ (s s1 : State) (zone : Byte) (x : Transmission) (v : EvictRecord) (q : ClaimRecord) (side : Side) (o : Addr)
    (kind : WindowKind) (y : TargetRecord),
    (s.withZone zone).burstEndBad = some s1 → s1.judgement = some .corrupted → s1.ownBurst = true →
    s1.access.inTx = some x → s1.access.queue.length ≤ 4 →
    let w := s1.access.window
    let base : Addr := Fin.ofNat 16 (s1.port.cfg.n - 1)
    let answer := match x.frame with
      | .grant _ _ _ => true
      | .refuse _ _ _ => true
      | .recall _ _ _ => true
      | _ => false
    let release := match x.frame with | .release _ => true | _ => false
    let settled := s1.memb.presenceDue = false ∧
      (s1.access.queue.any QEntry.isClaim = true ∨ ∀ r, r ∈ s1.resv.claim.toList → r.phase ≠ .queued) ∧
      (s1.access.queue.any QEntry.isJoin = true ∨ ∀ r, r ∈ s1.memb.join.toList → r.phase ≠ .queued)
    let others := w.isOpen = true ∧ w.originator = some o ∧ w.kind = some kind ∧ o ≠ s1.straps.address
    Completes (.corruptedFrame zone) s fun t =>
      t.line.corrupted = min 255 (s1.line.corrupted + 1 - s1.line.corrupted / 255) ∧ t.access.inTx = none ∧
      (∀ e, e ∈ t.access.queue → e.cls = 0 → e ∈ s1.access.queue) ∧
      (s.sending = true → ∃ b, b ∈ s1.line.burst.toList ∧ b.mismatch = true) ∧
      (w.isOpen = false → CountRestarted s1 t base ∧ t.dir = s1.dir ∧ t.access.window = w ∧
        (answer = true ∨ release = true → t.resv = s1.resv ∧ t.memb = s1.memb ∧ t.port = s1.port ∧
          (settled → t.access.queue = s1.access.queue)) ∧
        (match x.frame with
          | .claim _ _ _ _ _ => (s1.claimWaiting = true → t.claimWaiting = false ∧ t.access.ownWindow = false) ∧
              (s1.awaitsClaim q side → ClaimFails s1 t q side .inconclusive)
          | .join _ _ => ∀ r, r ∈ s1.memb.join.toList → r.phase = .waiting → JoinAttemptFails s1 t r .inconclusive
          | .evict _ => s1.memb.evict = some v → EvictFails s1 t v .inconclusive
          | .presence _ _ _ => t.access.queue.any QEntry.isPresence = true
          | .grant _ _ _ => True
          | .refuse _ _ _ => True
          | .release _ => True
          | .recall _ _ _ => True)) ∧
      (others → answer = true → kind ≠ .evict →
        CountRestarted s1 t base ∧ t.access.window = w.ended .cut ∧ t.resv = s1.resv ∧ t.memb = s1.memb ∧
        t.dir = s1.dir ∧ t.port = s1.port ∧
        (settled → t.access.queue =
          s1.access.queue.filter fun e => e.answers != some { originator := o, kind := kind })) ∧
      (others → answer = true → kind = .evict → s1.memb.target = some y → y.sent = false → s1.memb.state = .joined →
        t.memb.state = .evicted ∧ t.resv.held = .empty ∧ t.fault.cause = some .evicted ∧ t.access.queue = [] ∧
        t.access.window.isOpen = false ∧ t.driveEn = false)

/-! ### Slots, handover and the answer window -/

/-- The count of the bus: the end of the settle gap opens slot 0, a slot that passes idle takes its owner from the unheard
set and the next slot opens, the last leads to QUIET, and so does the idle period of UNSYNCED; the window whose last
address passes closes COMPLETE (R30, R31, R32, R33, R41). -/
def Obligations.SlotsPassInTurn : Prop :=
  ∀ (s : State) (zone : Byte) (base : Addr) (k : Nat),
    let n := s.port.cfg.n
    let own := s.straps.address.val
    let owner := fun (i : Nat) => (base.val + 1 + i) % n
    let o : Addr := Fin.ofNat 16 (owner k)
    let w := s.access.window
    let boundary := (s.withZone zone).advance ((2 + (k + 1)) * s.c - s.access.busTimer.value)
    let passed := boundary.setAccess { boundary.access with window := w.after o }
    let stays := w.isOpen = false ∨ o ∉ w.unheard ∨ ∃ a, a ∈ w.unheard ∧ a ≠ o
    let slotting := s.access.phase = .slotting ∧ s.access.base = some base ∧ s.access.slot = some k
    (s.access.phase = .settle → s.access.base = some base → owner 0 ≠ own →
      let t := s.advance (2 * s.c - s.access.busTimer.value)
      exec .settleEnd s = .next (t.setAccess { t.access with phase := .slotting, slot := some 0 })) ∧
    (slotting → stays → k + 1 < n → owner (k + 1) ≠ own → exec (.slotBoundary zone) s = .next
      (passed.setAccess { passed.access with slot := some (k + 1) })) ∧
    (slotting → stays → k + 1 = n → passed.selected = none → exec (.slotBoundary zone) s = .next
      (passed.setAccess { passed.access with phase := .quiet, slot := none, busTimer := ⟨false, 0⟩ })) ∧
    (slotting → w.isOpen = true → w.originator.isSome = true → w.kind.isSome = true → w.unheard = [o] →
      Completes (.slotBoundary zone) s fun t =>
        t.access.window = { w with isOpen := false, unheard := [], cause := some .complete }) ∧
    (s.access.phase = .unsynced → s.access.busTimer.running = true → s.selected = none →
      let t := s.advance ((2 + n) * s.c - s.access.busTimer.value)
      exec .unsyncedIdleExpiry s = .next (t.setAccess { t.access with phase := .quiet, busTimer := ⟨false, 0⟩ }))

/-- At an instant of handover, the beginning of an own slot of any index or an instant in QUIET, the station hands the
selected entry over with its fields of that instant, and the line unit sends it when the receiver is in AWAIT and otherwise
leaves it queued (R23, R32, R33, R34, R96, R103). That the own burst opens at the handover, and that in QUIET the handover
comes at the end of the event, are the model's choice (logs 10 and 23). -/
def Obligations.OwnSlotSendsTheSelectedFrame : Prop :=
  ∀ (s s0 : State) (c : Instr) (e : QEntry) (f : Frame) (q : JoinRecord),
    HandsOver s c s0 → s0.selected = some e →
    (s0.line.rx = .await → e.payload = .presence → Completes c s fun t =>
      Transmits s0 t e (.presence s0.resv.held s0.occupied s0.motion.state) ∧ t.resv.held = s0.resv.held ∧
      t.motion.state = s0.motion.state ∧ t.port = s0.port) ∧
    (s0.line.rx = .await → e.payload = .frame f → e.isJoin = false → Completes c s fun t =>
      Transmits s0 t e f ∧ t.resv.held = s0.resv.held ∧ t.resv.claim = s0.resv.claim ∧ t.memb.join = s0.memb.join ∧
      t.access.ownWindow = s0.access.ownWindow ∧ t.port = s0.port) ∧
    (s0.line.rx = .await → e.payload = .frame f → e.isJoin = true → s0.memb.join = some q → Completes c s fun t =>
      let neighbour := fun (side : Side) => (s0.neighbour q.occupied side).filter fun a => (s0.entry a).state == .present
      Transmits s0 t e f ∧ t.access.ownWindow = true ∧
      t.memb.join = some
        { q with phase := .waiting, expectedLower := neighbour .down, expectedUpper := neighbour .up }) ∧
    (s0.line.rx ≠ .await → e.payload ≠ .claim → exec c s = .next s0)

/-- A CLAIM fixed at its handover, at the beginning of an own slot of any index or at an instant in QUIET: without a need it
lapses; a SILENT or EVICTING neighbour on the need's side, or a taken zone next to H, fails it unsent, the first at once and
the second at the fourth attempt with CLAIM_FAILED, on which a down relocate turns to UP or ends BLOCKED; else it asks for
the leading free part of the need, of the neighbour or unopposed, with the next tag (R33, R34, R76, R77, R78, R79, R86, R87,
R137, R138).
That a local HELD failure watches the holder of the zone alone is the model's choice (log 29). -/
def Obligations.ClaimIsFixedAtItsHandover : Prop :=
  ∀ (s s0 : State) (c : Instr) (e : QEntry) (r : ClaimRecord) (need : Need) (y : RelocRecord),
    HandsOver s c s0 → s0.selected = some e → e.payload = .claim → s0.line.rx = .await → s0.resv.claim = some r →
    let side := need.side
    let neighbour := s0.neighbour s0.resv.held side
    let lost := fun (a : Addr) => (s0.entry a).state = .silent ∨ (s0.entry a).state = .evicting
    let clear := neighbour.all fun a => (s0.entry a).state != .silent && (s0.entry a).state != .evicting
    let first := match side with | .up => need.lo | .down => need.hi
    let range := (ZRange.run need.lo need.hi).leadingPart (match side with | .up => .down | .down => .up)
      fun z => !s0.taken z
    let attempt := if s0.resv.attemptSide = some side then s0.resv.attempt else 1
    let tag := s0.resv.tagCounter + 1
    let relocates := s0.motion.state = .relocating ∧ s0.motion.reloc = some y ∧ y.phase = .claiming ∧ y.side = side ∧
      s0.resv.held ≠ .empty ∧ (side = .down → ∀ b, b ∈ (s0.neighbour s0.resv.held .up).toList → ¬ lost b)
    (s0.motion.need = none → Completes c s fun t =>
      t.resv.claim = none ∧ t.resv.attempt = 1 ∧ t.resv.attemptSide = none ∧ t.access.queue.any QEntry.isClaim = false ∧
      t.resv.held = s0.resv.held) ∧
    (s0.motion.need = some need → (∀ a, a ∈ neighbour.toList → lost a → s0.motion.state ≠ .relocating →
      Completes c s fun t =>
        t.resv.claim = some { r with phase := .concluded, outcome := some .neighbourSilent } ∧ t.resv.attempt = 1 ∧
        t.resv.rearm = { waiting := true, watched := [a], timer := ⟨true, 0⟩ } ∧ t.resv.held = s0.resv.held ∧
        t.access.queue.any QEntry.isClaim = false ∧
        t.port.events = placeEvent s0.port.events (.claimFailed .neighbourSilent (some a) first))) ∧
    (s0.motion.need = some need → (∀ a, a ∈ neighbour.toList → lost a → relocates → Completes c s fun t =>
      t.resv.held = s0.resv.held ∧ RelocateTurns s0 t y (.claimFailed .neighbourSilent (some a) first))) ∧
    (s0.motion.need = some need → clear = true → range = .empty → attempt = 4 → s0.motion.state ≠ .relocating →
      Completes c s fun t =>
        t.resv.claim = some { r with phase := .concluded, outcome := some .held } ∧ t.resv.attempt = 1 ∧
        t.resv.attemptSide = none ∧ t.resv.rearm =
          { waiting := true, watched := (s0.holder first).toList, timer := ⟨true, 0⟩ } ∧
        t.resv.held = s0.resv.held ∧ t.access.queue.any QEntry.isClaim = false ∧
        t.port.events = placeEvent s0.port.events (.claimFailed (.refused .held) (s0.holder first) first)) ∧
    (s0.motion.need = some need → clear = true → range = .empty → attempt = 4 → relocates → Completes c s fun t =>
      t.resv.held = s0.resv.held ∧
      RelocateTurns s0 t y (.claimFailed (.refused .held) (s0.holder first) first)) ∧
    (s0.motion.need = some need → clear = true → range = .empty → attempt < 4 → Completes c s fun t =>
      t.resv.claim = some { r with phase := .concluded, outcome := some .held } ∧ t.resv.attempt = attempt + 1 ∧
      t.resv.attemptSide = some side ∧ t.resv.rearm.waiting = true ∧
      t.resv.rearm.watched = (s0.holder first).toList ∧ t.resv.held = s0.resv.held ∧
      t.access.queue.any QEntry.isClaim = false ∧ t.port.events = s0.port.events) ∧
    (s0.motion.need = some need → clear = true → range ≠ .empty → Completes c s fun t =>
      Transmits s0 t e (.claim (neighbour.getD 0) tag side neighbour.isNone range) ∧
      t.resv.tagCounter = tag ∧ t.access.ownWindow = true ∧ t.resv.attempt = attempt ∧
      t.resv.attemptSide = some side ∧ t.resv.held = s0.resv.held ∧ t.port = s0.port ∧
      t.resv.claim = some
        { r with
          phase := .waiting, tag := some tag, side := some side, requested := range, addressee := neighbour,
          unopposed := neighbour.isNone, grant := none, refusal := none, refuser := none })

/-- A claim concludes at the close of its window: with a grant, or unopposed and unrefused, H grows by the range to their
span and the attempts start over, a stalled move goes on if its next step now fits, and a relocate steps if its range is now
held; a range with a zone that a peer holds is clipped before that zone, the rest released, or fails where the first zone is
such; refused or unanswered, the range is disclaimed and the attempt counts up, the fourth ending in CLAIM_FAILED, on which
a down relocate turns to UP or ends BLOCKED; an orphaned one gives its zones back. The recorded grant is a part of the range asked for, as the rail law has it of a waiting
claim (R69, R81, R82, R83, R84, R85, R86, R87, R88,
R130, R137, R138). That CONFLICT comes before what follows it is the model's choice (log 22). -/
def Obligations.ClaimConcludesAtItsWindowsClose : Prop :=
  ∀ (s : State) (zone : Byte) (base : Addr) (k : Nat) (r : ClaimRecord) (side d : Side) (g rr : ZRange) (a : Addr)
    (q z lo hi : Nat) (y : RelocRecord),
    ClosesAtBoundary s base k s.straps.address .claim → s.resv.claim = some r → r.phase = .waiting →
    r.inconclusive = false → r.side = some side → s.access.queue.length ≤ 4 →
    let h := s.resv.held
    let c := s.port.cfg
    let gains := r.refusal = none ∧ (r.grant = some g ∨ (r.grant = none ∧ r.unopposed = true ∧ g = r.requested))
    let fails := r.refusal.isSome = true ∨ (r.grant = none ∧ r.unopposed = false)
    let reason : EventReason := match r.refusal with | some x => .refused x | none => .noAnswer
    let atOnce := reason = .noAnswer ∨ reason = .refused .overlap
    let first := match side, r.requested with | .up, .run lo _ => lo | .down, .run _ hi => hi | _, .empty => 0
    let grows := gains ∧ r.orphaned = false ∧ g ≠ .empty ∧ s.overlapping g = [] ∧ g.adjacent h side = true
    let grown := s.setResv { s.resv with held := h.span g }
    let lawful := ClaimLaw c.z h r
    let claiming := s.motion.state = .relocating ∧ s.motion.reloc = some y ∧ y.phase = .claiming
    let clips := gains ∧ r.orphaned = false ∧ g = .run lo hi ∧ g.overlaps h = false ∧ lo ≤ z ∧ z ≤ hi ∧
      s.holder z = some a ∧ ∀ u, u ∈ List.range (hi + 1) →
        (match side with | .up => lo ≤ u ∧ u < z | .down => z < u) → s.holder u = none
    let before := match side with
      | .up => if lo < z then ZRange.run lo (z - 1) else .empty
      | .down => if z < hi then ZRange.run (z + 1) hi else .empty
    Completes (.slotBoundary zone) s fun t =>
      t.access.ownWindow = false ∧ t.claimWaiting = false ∧ t.dir.eviction = s.dir.eviction ∧ t.memb.state = s.memb.state ∧
      (gains → r.orphaned = false → g ≠ .empty → s.overlapping g = [] → g.adjacent h side = true →
        t.resv.held = h.span g ∧ t.resv.attempt = 1 ∧ t.resv.attemptSide = none ∧ t.port.events = s.port.events) ∧
      (lawful → grows → s.motion.state = .stalled → StepLeadsTo grown d q →
        t.motion.state = .moving ∧ t.motion.stepTimer = ⟨true, 0⟩ ∧ t.motion.stallTimer = ⟨false, 0⟩) ∧
      (grows → s.motion.state = .stalled → s.motion.direction = some d → ¬ StepLeadsTo grown d q →
        (d = .up → q = s.motion.p + 1) → (d = .down → q + 1 = s.motion.p ∨ (s.motion.p = 0 ∧ q = 0)) →
        t.motion.state = .stalled ∧ t.motion.stallTimer.running = s.motion.stallTimer.running) ∧
      (lawful → grows → claiming → relocateRange c y.k y.side = some rr → rr.inside (h.span g) = true →
        t.motion.state = .relocating ∧ t.motion.reloc = some { y with phase := .stepping } ∧
        t.motion.stepTimer = ⟨true, 0⟩ ∧ t.motion.need = none) ∧
      (clips → before ≠ .empty → before.adjacent h side = true →
        t.resv.held = h.span before ∧ t.resv.attempt = 1 ∧ t.resv.attemptSide = none ∧
        t.access.queue.any (fun e => e.isReleaseOn side) = true ∧
        t.port.events = placeEvent s.port.events (.conflict a z)) ∧
      (clips → before = .empty → s.resv.attempt < 4 →
        t.resv.held = h ∧ t.resv.attempt = s.resv.attempt + 1 ∧ t.resv.rearm.waiting = true ∧
        t.access.queue.any (fun e => e.isReleaseOn side) = true ∧
        t.port.events = placeEvent s.port.events (.conflict a z)) ∧
      (gains → r.orphaned = true → g ≠ .empty → s.overlapping g = [] → g.overlaps h = false →
        t.resv.held = h ∧ t.access.queue.any (fun e => e.isReleaseOn side) = true ∧ t.resv.attempt = 1 ∧
        t.port.events = s.port.events) ∧
      (fails → r.requested ≠ .empty → r.requested.overlaps h = false →
        t.resv.held = h ∧ t.access.queue.any (fun e => e.isReleaseOn side) = true) ∧
      (fails → r.requested ≠ .empty → r.requested.overlaps h = false → r.orphaned = false → s.resv.attempt < 4 →
        t.resv.attempt = s.resv.attempt + 1 ∧ t.port.events = s.port.events ∧ (¬ atOnce → t.resv.rearm.waiting = true)) ∧
      (fails → r.requested ≠ .empty → r.requested.overlaps h = false → r.orphaned = false → s.resv.attempt = 4 →
        s.motion.state ≠ .relocating → t.resv.attempt = 1 ∧ t.resv.attemptSide = none ∧ t.resv.rearm.waiting = true ∧
        t.port.events = placeEvent s.port.events (.claimFailed reason r.addressee first)) ∧
      (fails → r.requested ≠ .empty → r.requested.overlaps h = false → r.orphaned = false → s.resv.attempt = 4 →
        claiming → y.side = side → h ≠ .empty →
        RelocateTurns s t y (.claimFailed reason r.addressee first))

/-- A join concludes at the close of its window: an INTRUSION fails it, an OVERLAP or an expected neighbour not heard leads
to the next attempt or fails the fourth, and else the station adopts the range between the bounds and is JOINED, unless
a peer's extent overlaps it; the answers queued to the window are withdrawn (R43, R98, R108, R109, R110, R111). -/
def Obligations.JoinConcludesAtItsWindowsClose : Prop :=
  ∀ (s : State) (zone : Byte) (base : Addr) (k : Nat) (q : JoinRecord) (jlo jhi : Nat) (a : Addr),
    ClosesAtBoundary s base k s.straps.address .join → s.memb.join = some q → q.phase = .waiting →
    q.occupied = .run jlo jhi → s.memb.state = .joining →
    let missing := (q.expectedLower.isSome = true ∧ q.lowHeard = false) ∨
      (q.expectedUpper.isSome = true ∧ q.highHeard = false)
    let absentee := if q.lowHeard = false ∧ q.expectedLower.isSome = true then q.expectedLower else q.expectedUpper
    let adopted := ZRange.run (q.lowBound.getD jlo) (q.highBound.getD jhi)
    let bound := fun (e : QEntry) => e.answers == some { originator := s.straps.address, kind := .join }
    let withdrawn := s.setAccess { s.access with queue := s.access.queue.filter fun e => !bound e }
    let failed := fun (reason : EventReason) (station : Option Addr) (t : State) =>
      t.memb.state = .detached ∧ t.memb.join = none ∧ t.resv.held = s.resv.held ∧
      t.port.events = placeEvent s.port.events (.joinFailed reason station)
    Completes (.slotBoundary zone) s fun t =>
      t.access.ownWindow = false ∧ t.dir.eviction = s.dir.eviction ∧ SameLatch s t ∧
      (q.intrusion = some a → failed (.refused .intrusion) (some a) t) ∧
      (q.intrusion = none → q.overlap = true ∨ missing → q.attempt < 4 → JoinBegins withdrawn zone (q.attempt + 1) t ∧
        t.memb.state = .joining ∧ t.port.events = s.port.events) ∧
      (q.intrusion = none → q.overlap = true → 4 ≤ q.attempt → failed (.refused .overlap) none t) ∧
      (q.intrusion = none → q.overlap = false → missing → 4 ≤ q.attempt → failed .noAnswer absentee t) ∧
      (q.intrusion = none → q.overlap = false → ¬ missing → (s.overlapping adopted).head? = some a →
        failed (.refused .intrusion) (some a) t) ∧
      (q.intrusion = none → q.overlap = false → ¬ missing → s.overlapping adopted = [] →
        t.memb.state = .joined ∧ t.memb.join = none ∧ t.resv.held = adopted ∧ t.memb.presenceDue = true ∧
        t.memb.presenceTimer = ⟨true, 0⟩ ∧ t.driveEn = (!s.inReset && !s.fault.cause.isSome) ∧
        t.port.events = placeEvent s.port.events .joinDone)

/-- An eviction concludes at the close of its window: an unopposed target's entry is ABSENT and empty, an objection gives it
its state back, the station that ordered it reports the outcome, and a target that heard no cut makes a PRESENCE due
(R62, R66, R114, R115). That PEER_EVICTED comes before EVICT_DONE or EVICT_FAILED is the model's choice (log 22). -/
def Obligations.EvictionConcludesAtItsWindowsClose : Prop :=
  ∀ (s : State) (zone : Byte) (base : Addr) (k : Nat) (o : Addr) (r : EvictionPending) (x : EvictRecord)
    (y : TargetRecord),
    ClosesAtBoundary s base k o .evict →
    let e := s.entry r.target
    let done : List Event := if r.aliveHeard = true ∨ r.returnState = .absent then [] else [.peerEvicted r.target]
    Completes (.slotBoundary zone) s fun t =>
      t.resv.held = s.resv.held ∧ t.memb.state = s.memb.state ∧ SameLatch s t ∧ t.motion.state = s.motion.state ∧ t.motion.p = s.motion.p ∧ t.motion.known = s.motion.known ∧
      (s.dir.eviction = some r → t.dir.eviction = none ∧
        (r.aliveHeard = false → (t.entry r.target).state = .absent ∧ (t.entry r.target).held = .empty ∧
          (t.entry r.target).occupied = .empty ∧ (t.entry r.target).mode = .unplaced) ∧
        (r.aliveHeard = true → (t.entry r.target).state = r.returnState ∧ (t.entry r.target).held = e.held ∧
          (t.entry r.target).occupied = e.occupied) ∧
        ∀ a, a ≠ r.target → (t.entry a).state = (s.entry a).state ∧ (t.entry a).held = (s.entry a).held) ∧
      (s.dir.eviction = some r → o = s.straps.address → s.memb.evict = some x → x.waiting = true →
        t.memb.evict = none ∧ t.port.events = placeEvents s.port.events
          (done ++ [if x.aliveHeard then .evictFailed (.refused .alive) x.target else .evictDone x.target])) ∧
      (s.dir.eviction = some r → o ≠ s.straps.address →
        t.port.events = placeEvents s.port.events done ∧ t.memb.evict = s.memb.evict) ∧
      (s.memb.target = some y → t.memb.target = none ∧ (y.sent = false → t.memb.presenceDue = true))

/-! ### Timers -/

/-- The age of a JOINING or PRESENT peer reaches 3 P: the entry, or the return state of an EVICTING one, goes SILENT and
PEER_SILENT is queued; a JOINING peer's carriage joins its held range, clipped against H (R59, R66). That an age which was
past 3 P already when the entry became PRESENT counts as reaching it is the model's choice (log 37). -/
def Obligations.SilentPeerKeepsItsZones : Prop :=
  ∀ (s : State) (a : Addr) (r : EvictionPending), s.dirActive = true → s.isPeer a = true →
    let e := s.entry a
    let joiner := clip s.resv.held (e.held.span e.occupied) e.occupied
    Completes (.ageExpiry a) s fun t =>
      t.resv.held = s.resv.held ∧ t.memb.state = s.memb.state ∧ SameLatch s t ∧
      (e.state = .joining ∨ e.state = .present →
        (t.entry a).state = .silent ∧ (t.entry a).held = (if e.state = .joining then joiner else e.held) ∧
        (t.entry a).occupied = e.occupied ∧ (t.entry a).mode = e.mode ∧ t.dir.eviction = s.dir.eviction ∧
        (t.entry a).age = max e.age (3 * s.presenceInterval) ∧
        (s.access.phase ≠ .quiet → t.port.events = placeEvent s.port.events (.peerSilent a))) ∧
      (s.dir.eviction = some r → r.target = a → e.state = .evicting →
        (r.returnState = .joining ∨ r.returnState = .present) →
        (t.entry a).state = .evicting ∧ t.dir.eviction = some { r with returnState := .silent } ∧
        (s.access.phase ≠ .quiet → t.port.events = placeEvent s.port.events (.peerSilent a))) ∧
      (e.state = .absent ∨ e.state = .silent → t = s) ∧
      ∀ b, b ≠ a → (t.entry b).state = (s.entry b).state ∧ (t.entry b).held = (s.entry b).held

/-- The timers of the reservation and membership units: the re-arm timer at P arms and lets a claim be formed, the listen
timer at 2 P begins attempt 1 of a join, the reading timer at P takes a fresh reading, and the presence timer at P stops
there and makes a PRESENCE due (R74, R75, R99, R102, R111). That a PRESENCE already due makes no new offer is the model's
choice (log 33). -/
def Obligations.TimersOfClaimsAndMembership : Prop :=
  ∀ (s : State) (zone : Byte) (q : JoinRecord),
    let frame := fun (t : State) => t.resv.held = s.resv.held ∧ SameLatch s t ∧
      ∀ a, (t.entry a).state = (s.entry a).state ∧ (t.entry a).held = (s.entry a).held
    (s.resv.rearm.waiting = true → s.resv.rearm.timer.running = true → Completes .rearmTimerExpiry s fun t =>
      frame t ∧ t.memb.state = s.memb.state ∧ (s.access.phase ≠ .quiet →
        t.resv.rearm = { waiting := false, watched := [], timer := ⟨false, 0⟩ } ∧
        (s.motion.need.isSome = true → s.claimInFlight = false → s.memb.state = .joined →
          t.resv.claim = some freshClaim ∧ t.access.queue = (offerTo s.access.queue claimEntry).1))) ∧
    (s.memb.state = .listening → s.memb.listenTimer.running = true → Completes (.listenTimerExpiry zone) s fun t =>
      frame t ∧ t.memb.state = .joining ∧ JoinBegins s zone 1 t) ∧
    (s.memb.join = some q → q.phase = .reading → s.memb.listenTimer.running = true →
      Completes (.joinReadingRetry zone) s fun t =>
        frame t ∧ t.memb.state = s.memb.state ∧ JoinBegins s zone q.attempt t) ∧
    (s.memb.state = .joined → s.memb.presenceTimer.running = true → Completes .presenceTimerExpiry s fun t =>
      frame t ∧ t.memb.state = .joined ∧ t.memb.presenceTimer = ⟨false, s.presenceInterval⟩ ∧
      t.memb.presenceDue = true ∧ (s.access.phase ≠ .quiet → t.access.queue =
        if s.memb.presenceDue then s.access.queue else (offerTo s.access.queue presenceEntry).1))

/-! ### The motion engine -/

/-- A step event of a move: a step that does not fit stalls the move; a step in the direction DIR shows is counted, and a
mismatch count above the tolerance faults it, the target ends it ARRIVED with every zone outside the carriage released,
and else it goes on with the zones behind a boundary released (R121, R123, R124, R125, R126, R129;
log 19). -/
def Obligations.StepEventMovesTheCarriage : Prop :=
  ∀ (s : State) (zone : Byte) (side : Side) (q hlo hhi : Nat),
    let c := s.port.cfg
    let ready := s.motion.state = .moving ∧ s.motion.stepTimer.running = true ∧ s.motion.setupTimer.running = false ∧
      s.motion.known = true ∧ 0 < c.s ∧ 0 < c.w
    let reading := if zone.toNat < c.z then some zone.toNat else none
    let count := if reading = some (q / c.s) then 0 else s.motion.mismatch + 1
    let faces := s.motion.dirUp = (side == .up)
    let onRail := s.resv.held = .run hlo hhi ∧ hhi < c.z
    let body := bodyAt c q
    let frame := fun (t : State) => t.dir.eviction = s.dir.eviction ∧ t.memb.state = s.memb.state ∧
      t.port.cfg = c ∧ ∀ a, (t.entry a).state = (s.entry a).state ∧ (t.entry a).held = (s.entry a).held
    (ready → s.motion.direction = some side → ¬ StepLeadsTo s side q →
      (side = .up → q = s.motion.p + 1) → (side = .down → q + 1 = s.motion.p ∨ (s.motion.p = 0 ∧ q = 0)) →
      Completes (.stepEvent zone) s fun t =>
        frame t ∧ t.motion.state = .stalled ∧ t.motion.p = s.motion.p ∧ t.motion.stepTimer = ⟨false, 0⟩ ∧
        t.motion.stallTimer = ⟨true, 0⟩ ∧ t.motion.stepHigh = s.motion.stepHigh ∧ t.resv.held = s.resv.held ∧
        SameLatch s t) ∧
    (ready → StepLeadsTo s side q → ¬ faces → Completes (.stepEvent zone) s fun t =>
      frame t ∧ t.motion.dirUp = (side == .up) ∧ t.motion.setupTimer = ⟨true, 0⟩ ∧ t.motion.state = .moving ∧
      t.motion.p = s.motion.p ∧ t.motion.stepHigh = s.motion.stepHigh ∧ t.resv.held = s.resv.held ∧
      SameLatch s t) ∧
    (ready → StepLeadsTo s side q → faces → c.t < count → s.fault.cause = none → Completes (.stepEvent zone) s fun t =>
      frame t ∧ t.motion.state = .halted ∧ t.motion.p = q ∧ t.motion.known = false ∧ t.motion.stepHigh = false ∧
      t.motion.target = none ∧ t.resv.held = s.resv.held ∧ t.fault.cause = some .tracking ∧ t.driveEn = false ∧
      t.port.events = placeEvents s.port.events [.fault .tracking, .moveEnded .fault none]) ∧
    (ready → StepLeadsTo s side q → faces → count ≤ c.t → onRail → s.motion.target = some q →
      Completes (.stepEvent zone) s fun t =>
        frame t ∧ t.motion.state = .idle ∧ t.motion.p = q ∧ t.motion.known = true ∧ t.motion.stepHigh = true ∧
        t.motion.pulseTimer = ⟨true, 0⟩ ∧ t.motion.target = none ∧ t.motion.direction = none ∧
        t.motion.stepTimer = ⟨false, 0⟩ ∧ t.motion.need = none ∧ t.resv.held = body ∧ SameLatch s t ∧
        t.port.events = placeEvent s.port.events (.moveEnded .arrived (some q))) ∧
    (ready → StepLeadsTo s side q → faces → count ≤ c.t → onRail → s.motion.target ≠ some q →
      Completes (.stepEvent zone) s fun t =>
        frame t ∧ t.motion.state = .moving ∧ t.motion.p = q ∧ t.motion.known = true ∧ t.motion.mismatch = count ∧
        t.motion.stepHigh = true ∧ t.motion.pulseTimer = ⟨true, 0⟩ ∧ t.motion.stepTimer = ⟨true, 0⟩ ∧
        t.motion.target = s.motion.target ∧ SameLatch s t ∧
        t.resv.held = (if q % c.s = 0 then (match side with
            | .up => ZRange.run (q / c.s) hhi
            | .down => ZRange.run hlo ((q + c.w * c.s - 1) / c.s)) else s.resv.held))

/-- A relocate step: in the direction DIR shows it is counted, the zone beyond the boundary fixes the position and trims H to
the carriage there, the starting zone or no reading goes on until S + T steps fault it, and any other zone faults it
(R121, R139, R140). That a step which changes DIR is counted after the set-up time is the model's choice (log 19), and so is
that another zone read at step S + T reports TRACKING alone (log 25). -/
def Obligations.RelocateStepFindsTheBoundary : Prop :=
  ∀ (s : State) (zone : Byte) (r : RelocRecord) (hlo hhi : Nat),
    let c := s.port.cfg
    let ready := s.motion.state = .relocating ∧ s.motion.reloc = some r ∧ r.phase = .stepping ∧
      s.motion.stepTimer.running = true ∧ s.motion.setupTimer.running = false
    let faces := s.motion.dirUp = (r.side == .up)
    let z := zone.toNat
    let readable := z < c.z
    let boundary := readable ∧ (match r.side with | .down => z + 1 = r.k | .up => z = r.k + 1)
    let searching := ¬ readable ∨ z = r.k
    let p := match r.side with | .down => r.k * c.s - 1 | .up => (r.k + 1) * c.s
    let frame := fun (t : State) => t.dir.eviction = s.dir.eviction ∧ t.memb.state = s.memb.state ∧
      t.port.cfg = c ∧ ∀ a, (t.entry a).state = (s.entry a).state ∧ (t.entry a).held = (s.entry a).held
    let faulted := fun (cause : FaultCause) (t : State) =>
      frame t ∧ t.motion.state = .halted ∧ t.motion.reloc = none ∧ t.motion.known = false ∧ t.resv.held = s.resv.held ∧
      t.fault.cause = some cause ∧ t.port.events = placeEvents s.port.events [.fault cause, .relocateEnded .fault r.k]
    (ready → ¬ faces → Completes (.relocateStepEvent zone) s fun t =>
      frame t ∧ t.motion.dirUp = (r.side == .up) ∧ t.motion.setupTimer = ⟨true, 0⟩ ∧ t.motion.reloc = some r ∧
      t.motion.state = .relocating ∧ t.motion.stepHigh = s.motion.stepHigh ∧ t.resv.held = s.resv.held) ∧
    (ready → faces → boundary → p ≤ (c.z - c.w) * c.s → 0 < c.s → 0 < c.w → s.resv.held = .run hlo hhi → hhi < c.z →
      (bodyAt c p).inside s.resv.held = true → Completes (.relocateStepEvent zone) s fun t =>
        frame t ∧ t.motion.state = .idle ∧ t.motion.known = true ∧ t.motion.p = p ∧ t.motion.reloc = none ∧
        t.motion.mismatch = 0 ∧ t.motion.stepTimer = ⟨false, 0⟩ ∧ t.motion.need = none ∧ t.resv.held = bodyAt c p ∧
        SameLatch s t ∧ t.port.events = placeEvent s.port.events (.relocateDone p (p / c.s))) ∧
    (ready → faces → boundary → (c.z - c.w) * c.s < p → s.fault.cause = none →
      Completes (.relocateStepEvent zone) s (faulted .tracking)) ∧
    (ready → faces → searching → r.steps + 1 < c.s + c.t → Completes (.relocateStepEvent zone) s fun t =>
      frame t ∧ t.motion.state = .relocating ∧ t.motion.reloc = some { r with steps := r.steps + 1 } ∧
      t.motion.stepTimer = ⟨true, 0⟩ ∧ t.motion.stepHigh = true ∧ t.motion.pulseTimer = ⟨true, 0⟩ ∧
      t.motion.known = s.motion.known ∧ t.resv.held = s.resv.held ∧ SameLatch s t) ∧
    (ready → faces → searching → c.s + c.t ≤ r.steps + 1 → s.fault.cause = none →
      Completes (.relocateStepEvent zone) s (faulted .relocateLimit)) ∧
    (ready → faces → ¬ boundary → ¬ searching → s.fault.cause = none →
      Completes (.relocateStepEvent zone) s (faulted .tracking))

/-- The pulse and the stall: at the end of the DIR set-up time the pulse begins and the step is counted. A move's step has
the outcomes of a step event: a mismatch count above the tolerance faults it, the target ends it ARRIVED, and else it goes
on. So has a relocate's: the boundary fixes the position, the search goes on until S + T steps fault it, and any other zone
faults it. The pulse ends after its width, and the stall limit ends a stalled move BLOCKED in IDLE (R121, R124, R125, R126,
R130, R134, R139, R140, R142). That the step is counted at the pulse is the model's choice (log 19), and so is that another
zone read at step S + T reports TRACKING alone (log 25). -/
def Obligations.PulseAndStallTimersRunOut : Prop :=
  ∀ (s : State) (zone : Byte) (side : Side) (q : Nat) (r : RelocRecord) (hlo hhi : Nat),
    let c := s.port.cfg
    let h := s.resv.held
    let z := zone.toNat
    let readable := z < c.z
    let reading := if readable then some z else none
    let count := if reading = some (q / c.s) then 0 else s.motion.mismatch + 1
    let onRail := h = .run hlo hhi ∧ hhi < c.z ∧ 0 < c.s ∧ 0 < c.w
    let moves := s.motion.setupTimer.running = true ∧ s.motion.state = .moving ∧ StepLeadsTo s side q
    let relocates := s.motion.setupTimer.running = true ∧ s.motion.state = .relocating ∧ s.motion.reloc = some r ∧
      r.phase = .stepping
    let boundary := readable ∧ (match r.side with | .down => z + 1 = r.k | .up => z = r.k + 1)
    let searching := ¬ readable ∨ z = r.k
    let p := match r.side with | .down => r.k * c.s - 1 | .up => (r.k + 1) * c.s
    let frame := fun (t : State) => t.dir.eviction = s.dir.eviction ∧ t.memb.state = s.memb.state ∧ t.port.cfg = c ∧
      t.motion.dirUp = s.motion.dirUp ∧ t.motion.setupTimer.running = false ∧
      ∀ a, (t.entry a).state = (s.entry a).state ∧ (t.entry a).held = (s.entry a).held
    let halted := fun (cause : FaultCause) (t : State) =>
      frame t ∧ t.motion.state = .halted ∧ t.motion.known = false ∧ t.motion.stepHigh = false ∧ t.resv.held = h ∧
      t.fault.cause = some cause ∧ t.driveEn = false
    let lost := fun (cause : FaultCause) (t : State) => halted cause t ∧ t.motion.reloc = none ∧
      t.port.events = placeEvents s.port.events [.fault cause, .relocateEnded .fault r.k]
    (moves → c.t < count → s.fault.cause = none → Completes (.stepPulseStart zone) s fun t =>
      halted .tracking t ∧ t.motion.p = q ∧ t.motion.target = none ∧
      t.port.events = placeEvents s.port.events [.fault .tracking, .moveEnded .fault none]) ∧
    (moves → count ≤ c.t → Completes (.stepPulseStart zone) s fun t =>
      frame t ∧ t.motion.p = q ∧ t.motion.mismatch = count ∧ t.motion.stepHigh = true ∧
      t.motion.pulseTimer = ⟨true, 0⟩ ∧ SameLatch s t ∧
      t.motion.state = (if s.motion.target = some q then .idle else .moving)) ∧
    (moves → count ≤ c.t → s.motion.known = true → onRail → s.motion.target = some q →
      Completes (.stepPulseStart zone) s fun t =>
        t.motion.known = true ∧ t.motion.target = none ∧ t.motion.direction = none ∧ t.motion.stepTimer = ⟨false, 0⟩ ∧
        t.motion.need = none ∧ t.resv.held = bodyAt c q ∧
        t.port.events = placeEvent s.port.events (.moveEnded .arrived (some q))) ∧
    (moves → count ≤ c.t → s.motion.known = true → onRail → s.motion.target ≠ some q →
      Completes (.stepPulseStart zone) s fun t =>
        t.motion.known = true ∧ t.motion.stepTimer = ⟨true, 0⟩ ∧ t.motion.target = s.motion.target ∧
        t.resv.held = (if q % c.s = 0 then (match side with
          | .up => ZRange.run (q / c.s) hhi
          | .down => ZRange.run hlo ((q + c.w * c.s - 1) / c.s)) else h)) ∧
    (relocates → boundary → p ≤ (c.z - c.w) * c.s → onRail → (bodyAt c p).inside h = true →
      Completes (.stepPulseStart zone) s fun t =>
        frame t ∧ t.motion.state = .idle ∧ t.motion.known = true ∧ t.motion.p = p ∧ t.motion.reloc = none ∧
        t.motion.mismatch = 0 ∧ t.motion.stepTimer = ⟨false, 0⟩ ∧ t.motion.need = none ∧ t.resv.held = bodyAt c p ∧
        t.motion.stepHigh = true ∧ t.motion.pulseTimer = ⟨true, 0⟩ ∧ SameLatch s t ∧
        t.port.events = placeEvent s.port.events (.relocateDone p (p / c.s))) ∧
    (relocates → boundary → (c.z - c.w) * c.s < p → s.fault.cause = none →
      Completes (.stepPulseStart zone) s (lost .tracking)) ∧
    (relocates → searching → r.steps + 1 < c.s + c.t → Completes (.stepPulseStart zone) s fun t =>
      frame t ∧ t.motion.reloc = some { r with steps := r.steps + 1 } ∧ t.motion.stepHigh = true ∧
      t.motion.pulseTimer = ⟨true, 0⟩ ∧ t.motion.stepTimer = ⟨true, 0⟩ ∧ t.motion.state = .relocating ∧
      t.motion.known = s.motion.known ∧ t.resv.held = h ∧ SameLatch s t) ∧
    (relocates → searching → c.s + c.t ≤ r.steps + 1 → s.fault.cause = none →
      Completes (.stepPulseStart zone) s (lost .relocateLimit)) ∧
    (relocates → ¬ boundary → ¬ searching → s.fault.cause = none →
      Completes (.stepPulseStart zone) s (lost .tracking)) ∧
    (s.motion.stepHigh = true → Completes .stepPulseEnd s fun t =>
      t.motion.stepHigh = false ∧ t.motion.pulseTimer = ⟨false, 0⟩ ∧ t.motion.p = s.motion.p ∧
      t.motion.state = s.motion.state ∧ t.motion.reloc = s.motion.reloc ∧ t.motion.dirUp = s.motion.dirUp ∧
      t.resv.held = s.resv.held ∧ t.access.queue = s.access.queue ∧ t.port = s.port ∧ SameLatch s t) ∧
    (s.motion.state = .stalled → s.motion.stallTimer.running = true → Completes .stallTimerExpiry s fun t =>
      t.motion.state = .idle ∧ t.motion.target = none ∧ t.motion.direction = none ∧ t.motion.need = none ∧
      t.motion.stallTimer = ⟨false, 0⟩ ∧ t.motion.p = s.motion.p ∧ t.motion.known = s.motion.known ∧
      t.dir.eviction = s.dir.eviction ∧ t.memb.state = s.memb.state ∧ SameLatch s t ∧
      t.resv.held = s.trim.resv.held ∧
      t.port.events = placeEvent s.port.events (.moveEnded .blocked s.knownPosition))

/-! ### The fault latch, the output lines and the outgoing queue -/

/-- The latch takes a report by its kind and by what it holds: INTRUSION is told apart by the intruder, a repeated one is
absorbed, EVICTED replaces the cause, and every other report beyond the first sets the further flag; a report that is taken
halts the engine and queues FAULT and the end of the move or relocate; the output lines follow the state (R142, R164, R165, R167, R168, R172,
R173). -/
def Obligations.FaultLatchTakesReports : Prop :=
  ∀ (f : FaultUnit) (a : Addr) (s : State) (report : FaultReport) (g : FaultUnit),
    (f.cause = none → f.take .tracking = some { f with cause := some .tracking } ∧
      f.take .relocateLimit = some { f with cause := some .relocateLimit } ∧
      f.take .evicted = some { f with cause := some .evicted } ∧
      (a ∉ f.intruders → f.take (.intrusion a) =
        some { f with cause := some .intrusion, intruders := f.intruders ++ [a] })) ∧
    (f.cause.isSome = true → f.take .tracking = some { f with further := true } ∧
      f.take .relocateLimit = some { f with further := true } ∧
      f.take .evicted = some { f with cause := some .evicted, further := true } ∧
      (a ∈ f.intruders → f.take (.intrusion a) = none) ∧
      (a ∉ f.intruders → f.take (.intrusion a) = some { f with further := true, intruders := f.intruders ++ [a] })) ∧
    (s.fault.take report = none → s.reportFault report = s) ∧
    (s.fault.take report = some g → (s.reportFault report).fault = g ∧
      (s.reportFault report).motion.state = .halted ∧ (s.reportFault report).resv.held = s.resv.held ∧
      (s.reportFault report).dir = s.dir ∧ (s.reportFault report).memb = s.memb ∧
      (s.reportFault report).motion.known = (s.motion.known && (report.cause == .intrusion)) ∧
      (s.motion.state ≠ .halted → (s.reportFault report).motion.stepHigh = false) ∧
      (s.reportFault report).port.events = placeEvents s.port.events (.fault report.cause :: (match s.motion.state with
        | .moving => [Event.moveEnded .fault (if report.cause = .intrusion then s.knownPosition else none)]
        | .stalled => [Event.moveEnded .fault (if report.cause = .intrusion then s.knownPosition else none)]
        | .relocating => s.motion.reloc.toList.map fun r => Event.relocateEnded .fault r.k
        | .unplaced => []
        | .idle => []
        | .halted => []))) ∧
    s.driveEn = (!s.inReset && s.memb.state == .joined && s.fault.cause.isNone) ∧
    s.faultLine = (!s.inReset && s.fault.cause.isSome) ∧
    s.attention = (!s.inReset && (decide (s.port.events ≠ []) || s.fault.cause.isSome))

/-- The offers to the outgoing queue: a second PRESENCE, CLAIM or JOIN is not admitted, a RELEASE on a side that has one is
merged into it as their span, any other goes behind the queue while it holds fewer than eight frames, and into a full
queue an answer, a RELEASE or an EVICT displaces the newest PRESENCE, or else the newest CLAIM or JOIN (R37, R38). -/
def Obligations.OutgoingQueueAdmitsOffers : Prop :=
  ∀ (q pre post : List QEntry) (e x : QEntry) (side : Side) (r : ZRange),
    let fresh := (e.isPresence = true → q.any QEntry.isPresence = false) ∧
      (e.isClaim = true ∨ e.isJoin = true → q.any (fun y => y.isClaim || y.isJoin) = false) ∧
      (e.isReleaseOn side = true → q.any (fun y => y.isReleaseOn side) = false) ∧
      (∀ r', e.payload = .frame (.release r') → e.side = some side)
    (e.isPresence = true → q.any QEntry.isPresence = true → offerTo q e = (q, .alreadyQueued)) ∧
    (e.isClaim = true ∨ e.isJoin = true → q.any (fun y => y.isClaim || y.isJoin) = true → offerTo q e = (q, .notQueued)) ∧
    (q.any (fun y => y.isReleaseOn side) = true → offerTo q (releaseEntry r side) =
      (q.map (fun y => if y.isReleaseOn side then y.mergeRelease r else y), .merged)) ∧
    (fresh → q.length < 8 → offerTo q e = (q ++ [e], .admitted)) ∧
    (fresh → 8 ≤ q.length → 2 ≤ e.cls → offerTo q e = (q, .notQueued)) ∧
    (fresh → 8 ≤ q.length → e.cls < 2 → q = pre ++ x :: post → x.cls = 3 → (∀ y, y ∈ post → y.cls ≠ 3) →
      offerTo q e = (pre ++ post ++ [e], .admitted)) ∧
    (fresh → 8 ≤ q.length → e.cls < 2 → q = pre ++ x :: post → x.cls = 2 → (∀ y, y ∈ pre ++ post → y.cls ≠ 3) →
      (∀ y, y ∈ post → y.cls ≠ 2) → offerTo q e = (pre ++ post ++ [e], .admitted)) ∧
    (fresh → 8 ≤ q.length → e.cls < 2 → (∀ y, y ∈ q → y.cls < 2) → offerTo q e = (q, .notQueued))

/-- The selected entry is the oldest of the lowest class among those not deferred, a REFUSE(OVERLAP) before the others of
its class; a CLAIM, a JOIN and an EVICT are deferred while a window is open, a PRESENCE while the own window is
outstanding (R35, R39). -/
def Obligations.SelectionTakesTheOldestOfTheFirstClass : Prop :=
  ∀ (s : State) (e : QEntry),
    let waits := fun (x : QEntry) =>
      ((x.isClaim || x.isJoin || x.isEvict) && s.access.window.isOpen) || (x.isPresence && s.access.ownWindow)
    (s.selected = none ↔ ∀ x, x ∈ s.access.queue → waits x = true) ∧
    (s.selected = some e → waits e = false ∧
      (∀ x, x ∈ s.access.queue → waits x = false → e.cls ≤ x.cls ∧
        (x.cls = e.cls → x.isOverlap = true → e.isOverlap = true)) ∧
      ∃ pre post, s.access.queue = pre ++ e :: post ∧
        ∀ x, x ∈ pre → waits x = true ∨ x.cls ≠ e.cls ∨ (e.isOverlap = true ∧ x.isOverlap = false))

/-! ### Laws that every step keeps -/

/-- An event is placed by the number of records held: appended up to 14, replaced by OVERFLOW at 15, discarded at 16; so
the event queue never holds more than 16 records, and the newest of 16 is OVERFLOW (R161). -/
def Obligations.EveryStepKeepsTheEventQueueLaw : Prop :=
  (∀ (s : State) (e : Event),
    (s.port.events.length ≤ 14 → (s.queueEvent e).port.events = s.port.events ++ [e]) ∧
    (s.port.events.length = 15 → (s.queueEvent e).port.events = s.port.events ++ [.overflow]) ∧
    (16 ≤ s.port.events.length → (s.queueEvent e).port.events = s.port.events)) ∧
  ∀ (s t : State), s.EventLaw → step s = .next t → t.EventLaw

/-- The outgoing queue never holds more than 8 frames, nor two PRESENCE, two of CLAIM and JOIN, or two RELEASE for a side
(R37). -/
def Obligations.EveryStepKeepsTheOutgoingQueueLaw : Prop :=
  ∀ (s t : State), s.QueueLaw → step s = .next t → t.QueueLaw

/-- The fault latch and the answer window stay well formed (R40, R41, R165, R167, R171). -/
def Obligations.EveryStepKeepsTheLatchAndWindowLaws : Prop :=
  ∀ (s t : State), LatchLaw s.fault → WindowLaw s.access.window → step s = .next t →
    LatchLaw t.fault ∧ WindowLaw t.access.window

/-- The law that ties membership, the held range, the claim, the fault latch, the engine and the pulse together is kept (R16,
R39, R68, R97, R98, R101, R116, R121, R142, R166). That a DIR set-up time runs only in MOVING and RELOCATING is the model's
choice (log 20). -/
def Obligations.EveryStepKeepsTheStationLaw : Prop :=
  ∀ (s t : State), s.QueueLaw → StationLaw s → OwnWindowLaw s → step s = .next t → StationLaw t ∧ OwnWindowLaw t

/-- Every step keeps all the laws of the part, among them that no zone of H lies in the extent of a peer, and that the
carriage, where its place is known or bounded, stands inside H (R65, R120). -/
def Obligations.EveryStepKeepsThePartLaw : Prop :=
  ∀ (s t : State), PartLaw s → step s = .next t → PartLaw t

/-- The state after reset keeps all the laws of the part. -/
def Obligations.ResetStateKeepsThePartLaw : Prop := PartLaw State.reset
end

