-- ==== Sys2Proof/Laws/Decode.lean ====
section
/-! SUPPORT. What the decoding of the controller port gives, said once: the command decoded carries the kind byte and the
request it was decoded from, and is well formed; a transaction spells a request exactly when it has 64 bits. -/

namespace Sys2Proof

/-- A byte outside the numbers of the request kinds is no kind byte (R182). -/
theorem not_requestKind (kind : Byte)
    (h : kind.toNat ∉ [0x00, 0x10, 0x11, 0x20, 0x21, 0x22, 0x30, 0x31, 0x3F, 0x40, 0x41, 0x42]) :
    requestKinds.contains kind = false := by
  revert h; revert kind; decide +kernel

/-- The command decoded from a kind byte carries that byte and the request. -/
theorem decodeRequest_request (kind : Byte) (r : Request) (zone : Byte) (addr : Addr) (rate : RateCode) :
    (decodeRequest kind r zone addr rate).request = some (kind, r) := by
  unfold decodeRequest
  split
  case h_13 =>
    have hk := not_requestKind kind (by simp_all)
    simp [Instr.request, -List.contains_eq_mem, hk]
  all_goals
    rename_i h
    simp only [Instr.request, Option.some.injEq, Prod.mk.injEq, and_true]
    exact (BitVec.eq_of_toNat_eq h).symm

/-- The command decoded from a kind byte is well formed. -/
theorem decodeRequest_wellFormed (kind : Byte) (r : Request) (zone : Byte) (addr : Addr) (rate : RateCode) :
    (decodeRequest kind r zone addr rate).wellFormed = true := by
  unfold decodeRequest
  split
  case h_13 =>
    have hk := not_requestKind kind (by simp_all)
    simp [Instr.wellFormed, -List.contains_eq_mem, hk]
  all_goals rfl

/-- A transaction that has not 64 bits is cut or overlong, whatever its bits (R145). -/
theorem decodeTransaction_of_length_ne (bits : List Bool) (zone : Byte) (addr : Addr) (rate : RateCode)
    (h : bits.length ≠ 64) : decodeTransaction bits zone addr rate = .cutTransaction bits.length := by
  simp [decodeTransaction, h]

end Sys2Proof
end

