-- ==== Sys2Proof/Laws/State.lean ====
section
/-! SUPPORT. What each replacement of a block reads as, block by block. The proofs stand in parentheses so that simp takes
the lemmas as rewrite rules; as definitional rules they would block the discharge of side conditions. -/

namespace Sys2Proof.Machine

/-! ### setPending -/

@[simp] theorem State.pending_setPending (s : State) (x : List Instr) : (s.setPending x).pending = x := (rfl)
@[simp] theorem State.pins_setPending (s : State) (x : List Instr) : (s.setPending x).pins = s.pins := (rfl)
@[simp] theorem State.straps_setPending (s : State) (x : List Instr) : (s.setPending x).straps = s.straps := (rfl)
@[simp] theorem State.line_setPending (s : State) (x : List Instr) : (s.setPending x).line = s.line := (rfl)
@[simp] theorem State.access_setPending (s : State) (x : List Instr) : (s.setPending x).access = s.access := (rfl)
@[simp] theorem State.dir_setPending (s : State) (x : List Instr) : (s.setPending x).dir = s.dir := (rfl)
@[simp] theorem State.resv_setPending (s : State) (x : List Instr) : (s.setPending x).resv = s.resv := (rfl)
@[simp] theorem State.memb_setPending (s : State) (x : List Instr) : (s.setPending x).memb = s.memb := (rfl)
@[simp] theorem State.motion_setPending (s : State) (x : List Instr) : (s.setPending x).motion = s.motion := (rfl)
@[simp] theorem State.port_setPending (s : State) (x : List Instr) : (s.setPending x).port = s.port := (rfl)
@[simp] theorem State.fault_setPending (s : State) (x : List Instr) : (s.setPending x).fault = s.fault := (rfl)

/-! ### setPins -/

@[simp] theorem State.pending_setPins (s : State) (x : Pins) : (s.setPins x).pending = s.pending := (rfl)
@[simp] theorem State.pins_setPins (s : State) (x : Pins) : (s.setPins x).pins = x := (rfl)
@[simp] theorem State.straps_setPins (s : State) (x : Pins) : (s.setPins x).straps = s.straps := (rfl)
@[simp] theorem State.line_setPins (s : State) (x : Pins) : (s.setPins x).line = s.line := (rfl)
@[simp] theorem State.access_setPins (s : State) (x : Pins) : (s.setPins x).access = s.access := (rfl)
@[simp] theorem State.dir_setPins (s : State) (x : Pins) : (s.setPins x).dir = s.dir := (rfl)
@[simp] theorem State.resv_setPins (s : State) (x : Pins) : (s.setPins x).resv = s.resv := (rfl)
@[simp] theorem State.memb_setPins (s : State) (x : Pins) : (s.setPins x).memb = s.memb := (rfl)
@[simp] theorem State.motion_setPins (s : State) (x : Pins) : (s.setPins x).motion = s.motion := (rfl)
@[simp] theorem State.port_setPins (s : State) (x : Pins) : (s.setPins x).port = s.port := (rfl)
@[simp] theorem State.fault_setPins (s : State) (x : Pins) : (s.setPins x).fault = s.fault := (rfl)

/-! ### setStraps -/

@[simp] theorem State.pending_setStraps (s : State) (x : Straps) : (s.setStraps x).pending = s.pending := (rfl)
@[simp] theorem State.pins_setStraps (s : State) (x : Straps) : (s.setStraps x).pins = s.pins := (rfl)
@[simp] theorem State.straps_setStraps (s : State) (x : Straps) : (s.setStraps x).straps = x := (rfl)
@[simp] theorem State.line_setStraps (s : State) (x : Straps) : (s.setStraps x).line = s.line := (rfl)
@[simp] theorem State.access_setStraps (s : State) (x : Straps) : (s.setStraps x).access = s.access := (rfl)
@[simp] theorem State.dir_setStraps (s : State) (x : Straps) : (s.setStraps x).dir = s.dir := (rfl)
@[simp] theorem State.resv_setStraps (s : State) (x : Straps) : (s.setStraps x).resv = s.resv := (rfl)
@[simp] theorem State.memb_setStraps (s : State) (x : Straps) : (s.setStraps x).memb = s.memb := (rfl)
@[simp] theorem State.motion_setStraps (s : State) (x : Straps) : (s.setStraps x).motion = s.motion := (rfl)
@[simp] theorem State.port_setStraps (s : State) (x : Straps) : (s.setStraps x).port = s.port := (rfl)
@[simp] theorem State.fault_setStraps (s : State) (x : Straps) : (s.setStraps x).fault = s.fault := (rfl)

/-! ### setLine -/

@[simp] theorem State.pending_setLine (s : State) (x : LineUnit) : (s.setLine x).pending = s.pending := (rfl)
@[simp] theorem State.pins_setLine (s : State) (x : LineUnit) : (s.setLine x).pins = s.pins := (rfl)
@[simp] theorem State.straps_setLine (s : State) (x : LineUnit) : (s.setLine x).straps = s.straps := (rfl)
@[simp] theorem State.line_setLine (s : State) (x : LineUnit) : (s.setLine x).line = x := (rfl)
@[simp] theorem State.access_setLine (s : State) (x : LineUnit) : (s.setLine x).access = s.access := (rfl)
@[simp] theorem State.dir_setLine (s : State) (x : LineUnit) : (s.setLine x).dir = s.dir := (rfl)
@[simp] theorem State.resv_setLine (s : State) (x : LineUnit) : (s.setLine x).resv = s.resv := (rfl)
@[simp] theorem State.memb_setLine (s : State) (x : LineUnit) : (s.setLine x).memb = s.memb := (rfl)
@[simp] theorem State.motion_setLine (s : State) (x : LineUnit) : (s.setLine x).motion = s.motion := (rfl)
@[simp] theorem State.port_setLine (s : State) (x : LineUnit) : (s.setLine x).port = s.port := (rfl)
@[simp] theorem State.fault_setLine (s : State) (x : LineUnit) : (s.setLine x).fault = s.fault := (rfl)

/-! ### setAccess -/

@[simp] theorem State.pending_setAccess (s : State) (x : AccessUnit) : (s.setAccess x).pending = s.pending := (rfl)
@[simp] theorem State.pins_setAccess (s : State) (x : AccessUnit) : (s.setAccess x).pins = s.pins := (rfl)
@[simp] theorem State.straps_setAccess (s : State) (x : AccessUnit) : (s.setAccess x).straps = s.straps := (rfl)
@[simp] theorem State.line_setAccess (s : State) (x : AccessUnit) : (s.setAccess x).line = s.line := (rfl)
@[simp] theorem State.access_setAccess (s : State) (x : AccessUnit) : (s.setAccess x).access = x := (rfl)
@[simp] theorem State.dir_setAccess (s : State) (x : AccessUnit) : (s.setAccess x).dir = s.dir := (rfl)
@[simp] theorem State.resv_setAccess (s : State) (x : AccessUnit) : (s.setAccess x).resv = s.resv := (rfl)
@[simp] theorem State.memb_setAccess (s : State) (x : AccessUnit) : (s.setAccess x).memb = s.memb := (rfl)
@[simp] theorem State.motion_setAccess (s : State) (x : AccessUnit) : (s.setAccess x).motion = s.motion := (rfl)
@[simp] theorem State.port_setAccess (s : State) (x : AccessUnit) : (s.setAccess x).port = s.port := (rfl)
@[simp] theorem State.fault_setAccess (s : State) (x : AccessUnit) : (s.setAccess x).fault = s.fault := (rfl)

/-! ### setDir -/

@[simp] theorem State.pending_setDir (s : State) (x : Directory) : (s.setDir x).pending = s.pending := (rfl)
@[simp] theorem State.pins_setDir (s : State) (x : Directory) : (s.setDir x).pins = s.pins := (rfl)
@[simp] theorem State.straps_setDir (s : State) (x : Directory) : (s.setDir x).straps = s.straps := (rfl)
@[simp] theorem State.line_setDir (s : State) (x : Directory) : (s.setDir x).line = s.line := (rfl)
@[simp] theorem State.access_setDir (s : State) (x : Directory) : (s.setDir x).access = s.access := (rfl)
@[simp] theorem State.dir_setDir (s : State) (x : Directory) : (s.setDir x).dir = x := (rfl)
@[simp] theorem State.resv_setDir (s : State) (x : Directory) : (s.setDir x).resv = s.resv := (rfl)
@[simp] theorem State.memb_setDir (s : State) (x : Directory) : (s.setDir x).memb = s.memb := (rfl)
@[simp] theorem State.motion_setDir (s : State) (x : Directory) : (s.setDir x).motion = s.motion := (rfl)
@[simp] theorem State.port_setDir (s : State) (x : Directory) : (s.setDir x).port = s.port := (rfl)
@[simp] theorem State.fault_setDir (s : State) (x : Directory) : (s.setDir x).fault = s.fault := (rfl)

/-! ### setResv -/

@[simp] theorem State.pending_setResv (s : State) (x : Reservation) : (s.setResv x).pending = s.pending := (rfl)
@[simp] theorem State.pins_setResv (s : State) (x : Reservation) : (s.setResv x).pins = s.pins := (rfl)
@[simp] theorem State.straps_setResv (s : State) (x : Reservation) : (s.setResv x).straps = s.straps := (rfl)
@[simp] theorem State.line_setResv (s : State) (x : Reservation) : (s.setResv x).line = s.line := (rfl)
@[simp] theorem State.access_setResv (s : State) (x : Reservation) : (s.setResv x).access = s.access := (rfl)
@[simp] theorem State.dir_setResv (s : State) (x : Reservation) : (s.setResv x).dir = s.dir := (rfl)
@[simp] theorem State.resv_setResv (s : State) (x : Reservation) : (s.setResv x).resv = x := (rfl)
@[simp] theorem State.memb_setResv (s : State) (x : Reservation) : (s.setResv x).memb = s.memb := (rfl)
@[simp] theorem State.motion_setResv (s : State) (x : Reservation) : (s.setResv x).motion = s.motion := (rfl)
@[simp] theorem State.port_setResv (s : State) (x : Reservation) : (s.setResv x).port = s.port := (rfl)
@[simp] theorem State.fault_setResv (s : State) (x : Reservation) : (s.setResv x).fault = s.fault := (rfl)

/-! ### setMemb -/

@[simp] theorem State.pending_setMemb (s : State) (x : Membership) : (s.setMemb x).pending = s.pending := (rfl)
@[simp] theorem State.pins_setMemb (s : State) (x : Membership) : (s.setMemb x).pins = s.pins := (rfl)
@[simp] theorem State.straps_setMemb (s : State) (x : Membership) : (s.setMemb x).straps = s.straps := (rfl)
@[simp] theorem State.line_setMemb (s : State) (x : Membership) : (s.setMemb x).line = s.line := (rfl)
@[simp] theorem State.access_setMemb (s : State) (x : Membership) : (s.setMemb x).access = s.access := (rfl)
@[simp] theorem State.dir_setMemb (s : State) (x : Membership) : (s.setMemb x).dir = s.dir := (rfl)
@[simp] theorem State.resv_setMemb (s : State) (x : Membership) : (s.setMemb x).resv = s.resv := (rfl)
@[simp] theorem State.memb_setMemb (s : State) (x : Membership) : (s.setMemb x).memb = x := (rfl)
@[simp] theorem State.motion_setMemb (s : State) (x : Membership) : (s.setMemb x).motion = s.motion := (rfl)
@[simp] theorem State.port_setMemb (s : State) (x : Membership) : (s.setMemb x).port = s.port := (rfl)
@[simp] theorem State.fault_setMemb (s : State) (x : Membership) : (s.setMemb x).fault = s.fault := (rfl)

/-! ### setMotion -/

@[simp] theorem State.pending_setMotion (s : State) (x : Motion) : (s.setMotion x).pending = s.pending := (rfl)
@[simp] theorem State.pins_setMotion (s : State) (x : Motion) : (s.setMotion x).pins = s.pins := (rfl)
@[simp] theorem State.straps_setMotion (s : State) (x : Motion) : (s.setMotion x).straps = s.straps := (rfl)
@[simp] theorem State.line_setMotion (s : State) (x : Motion) : (s.setMotion x).line = s.line := (rfl)
@[simp] theorem State.access_setMotion (s : State) (x : Motion) : (s.setMotion x).access = s.access := (rfl)
@[simp] theorem State.dir_setMotion (s : State) (x : Motion) : (s.setMotion x).dir = s.dir := (rfl)
@[simp] theorem State.resv_setMotion (s : State) (x : Motion) : (s.setMotion x).resv = s.resv := (rfl)
@[simp] theorem State.memb_setMotion (s : State) (x : Motion) : (s.setMotion x).memb = s.memb := (rfl)
@[simp] theorem State.motion_setMotion (s : State) (x : Motion) : (s.setMotion x).motion = x := (rfl)
@[simp] theorem State.port_setMotion (s : State) (x : Motion) : (s.setMotion x).port = s.port := (rfl)
@[simp] theorem State.fault_setMotion (s : State) (x : Motion) : (s.setMotion x).fault = s.fault := (rfl)

/-! ### setPort -/

@[simp] theorem State.pending_setPort (s : State) (x : Port) : (s.setPort x).pending = s.pending := (rfl)
@[simp] theorem State.pins_setPort (s : State) (x : Port) : (s.setPort x).pins = s.pins := (rfl)
@[simp] theorem State.straps_setPort (s : State) (x : Port) : (s.setPort x).straps = s.straps := (rfl)
@[simp] theorem State.line_setPort (s : State) (x : Port) : (s.setPort x).line = s.line := (rfl)
@[simp] theorem State.access_setPort (s : State) (x : Port) : (s.setPort x).access = s.access := (rfl)
@[simp] theorem State.dir_setPort (s : State) (x : Port) : (s.setPort x).dir = s.dir := (rfl)
@[simp] theorem State.resv_setPort (s : State) (x : Port) : (s.setPort x).resv = s.resv := (rfl)
@[simp] theorem State.memb_setPort (s : State) (x : Port) : (s.setPort x).memb = s.memb := (rfl)
@[simp] theorem State.motion_setPort (s : State) (x : Port) : (s.setPort x).motion = s.motion := (rfl)
@[simp] theorem State.port_setPort (s : State) (x : Port) : (s.setPort x).port = x := (rfl)
@[simp] theorem State.fault_setPort (s : State) (x : Port) : (s.setPort x).fault = s.fault := (rfl)

/-! ### setFault -/

@[simp] theorem State.pending_setFault (s : State) (x : FaultUnit) : (s.setFault x).pending = s.pending := (rfl)
@[simp] theorem State.pins_setFault (s : State) (x : FaultUnit) : (s.setFault x).pins = s.pins := (rfl)
@[simp] theorem State.straps_setFault (s : State) (x : FaultUnit) : (s.setFault x).straps = s.straps := (rfl)
@[simp] theorem State.line_setFault (s : State) (x : FaultUnit) : (s.setFault x).line = s.line := (rfl)
@[simp] theorem State.access_setFault (s : State) (x : FaultUnit) : (s.setFault x).access = s.access := (rfl)
@[simp] theorem State.dir_setFault (s : State) (x : FaultUnit) : (s.setFault x).dir = s.dir := (rfl)
@[simp] theorem State.resv_setFault (s : State) (x : FaultUnit) : (s.setFault x).resv = s.resv := (rfl)
@[simp] theorem State.memb_setFault (s : State) (x : FaultUnit) : (s.setFault x).memb = s.memb := (rfl)
@[simp] theorem State.motion_setFault (s : State) (x : FaultUnit) : (s.setFault x).motion = s.motion := (rfl)
@[simp] theorem State.port_setFault (s : State) (x : FaultUnit) : (s.setFault x).port = s.port := (rfl)
@[simp] theorem State.fault_setFault (s : State) (x : FaultUnit) : (s.setFault x).fault = x := (rfl)

end Sys2Proof.Machine
end

