-- ==== Sys2Proof/Laws/Keeps.lean ====
section
/-! SUPPORT. What each shared operation leaves as it was: whole blocks first, then fields of the blocks it writes. -/

namespace Sys2Proof.Machine

set_option linter.unusedTactic false
set_option linter.unreachableTactic false
set_option linter.unusedVariables false
set_option linter.unnecessarySeqFocus false
set_option linter.unusedSimpArgs false

/-! ### The engine's own pieces -/

@[simp] theorem Motion.stopStepping_reads (m : Motion) :
    m.stopStepping.state = m.state ∧
    m.stopStepping.p = m.p ∧
    m.stopStepping.known = m.known ∧
    m.stopStepping.target = m.target ∧
    m.stopStepping.direction = m.direction ∧
    m.stopStepping.stallTimer = m.stallTimer ∧
    m.stopStepping.mismatch = m.mismatch ∧
    m.stopStepping.reloc = m.reloc ∧
    m.stopStepping.need = m.need ∧
    m.stopStepping.lastNeedSide = m.lastNeedSide ∧
    m.stopStepping.dirUp = m.dirUp ∧
    m.stopStepping.stepHigh = m.stepHigh ∧
    m.stopStepping.pulseTimer = m.pulseTimer ∧
    m.stopStepping.stepTimer = Timer.stopped ∧
    m.stopStepping.setupTimer = Timer.stopped := by
  simp [Motion.stopStepping]

@[simp] theorem Motion.cutPulse_reads (m : Motion) :
    m.cutPulse.state = m.state ∧
    m.cutPulse.p = m.p ∧
    m.cutPulse.known = m.known ∧
    m.cutPulse.target = m.target ∧
    m.cutPulse.direction = m.direction ∧
    m.cutPulse.stepTimer = m.stepTimer ∧
    m.cutPulse.stallTimer = m.stallTimer ∧
    m.cutPulse.mismatch = m.mismatch ∧
    m.cutPulse.reloc = m.reloc ∧
    m.cutPulse.need = m.need ∧
    m.cutPulse.lastNeedSide = m.lastNeedSide ∧
    m.cutPulse.dirUp = m.dirUp ∧
    m.cutPulse.stepHigh = false ∧
    m.cutPulse.pulseTimer = Timer.stopped ∧
    m.cutPulse.setupTimer = Timer.stopped := by
  simp [Motion.cutPulse]

/-! ### Ops -/

@[simp] theorem State.advance_keeps (s : State) (d : Nat) :
    (s.advance d).pending = s.pending ∧ (s.advance d).pins = s.pins ∧ (s.advance d).straps = s.straps ∧
    (s.advance d).port = s.port ∧ (s.advance d).line.rx = s.line.rx ∧ (s.advance d).line.burst = s.line.burst ∧
    (s.advance d).line.crc = s.line.crc ∧ (s.advance d).line.txChars = s.line.txChars ∧
    (s.advance d).line.corrupted = s.line.corrupted ∧ (s.advance d).access.phase = s.access.phase ∧
    (s.advance d).access.base = s.access.base ∧ (s.advance d).access.slot = s.access.slot ∧
    (s.advance d).access.queue = s.access.queue ∧ (s.advance d).access.inTx = s.access.inTx ∧
    (s.advance d).access.window = s.access.window ∧ (s.advance d).access.ownWindow = s.access.ownWindow ∧
    (s.advance d).dir.eviction = s.dir.eviction ∧ (s.advance d).resv.held = s.resv.held ∧
    (s.advance d).resv.claim = s.resv.claim ∧ (s.advance d).resv.tagCounter = s.resv.tagCounter ∧
    (s.advance d).resv.attempt = s.resv.attempt ∧ (s.advance d).resv.attemptSide = s.resv.attemptSide ∧
    (s.advance d).resv.rearm.waiting = s.resv.rearm.waiting ∧
    (s.advance d).resv.rearm.watched = s.resv.rearm.watched ∧ (s.advance d).memb.state = s.memb.state ∧
    (s.advance d).memb.join = s.memb.join ∧ (s.advance d).memb.presenceDue = s.memb.presenceDue ∧
    (s.advance d).memb.evict = s.memb.evict ∧ (s.advance d).memb.target = s.memb.target ∧
    (s.advance d).motion.state = s.motion.state ∧ (s.advance d).motion.p = s.motion.p ∧
    (s.advance d).motion.known = s.motion.known ∧ (s.advance d).motion.target = s.motion.target ∧
    (s.advance d).motion.direction = s.motion.direction ∧ (s.advance d).motion.mismatch = s.motion.mismatch ∧
    (s.advance d).motion.reloc = s.motion.reloc ∧ (s.advance d).motion.need = s.motion.need ∧
    (s.advance d).motion.lastNeedSide = s.motion.lastNeedSide ∧ (s.advance d).motion.dirUp = s.motion.dirUp ∧
    (s.advance d).motion.stepHigh = s.motion.stepHigh ∧ (s.advance d).fault.cause = s.fault.cause ∧
    (s.advance d).fault.further = s.fault.further ∧ (s.advance d).fault.intruders = s.fault.intruders ∧
    (s.advance d).fault.resetCause = s.fault.resetCause ∧ (s.advance d).fault.phase = s.fault.phase := by
  simp only [State.advance]
  (repeat' split) <;> simp

@[simp] theorem State.withZone_keeps (s : State) (zone : Byte) :
    (s.withZone zone).pending = s.pending ∧ (s.withZone zone).straps = s.straps ∧ (s.withZone zone).line = s.line ∧
    (s.withZone zone).access = s.access ∧ (s.withZone zone).dir = s.dir ∧ (s.withZone zone).resv = s.resv ∧
    (s.withZone zone).memb = s.memb ∧ (s.withZone zone).motion = s.motion ∧ (s.withZone zone).port = s.port ∧
    (s.withZone zone).fault = s.fault := by
  simp only [State.withZone]
  (repeat' split) <;> simp

@[simp] theorem State.queueEvent_keeps (s : State) (e : Event) :
    (s.queueEvent e).pending = s.pending ∧ (s.queueEvent e).pins = s.pins ∧ (s.queueEvent e).straps = s.straps ∧
    (s.queueEvent e).line = s.line ∧ (s.queueEvent e).access = s.access ∧ (s.queueEvent e).dir = s.dir ∧
    (s.queueEvent e).resv = s.resv ∧ (s.queueEvent e).memb = s.memb ∧ (s.queueEvent e).motion = s.motion ∧
    (s.queueEvent e).fault = s.fault ∧ (s.queueEvent e).port.cfg = s.port.cfg ∧
    (s.queueEvent e).port.response = s.port.response ∧ (s.queueEvent e).port.shiftedOut = s.port.shiftedOut := by
  simp only [State.queueEvent]
  (repeat' split) <;> simp

@[simp] theorem State.offer_keeps (s : State) (e : QEntry) :
    (s.offer e).pending = s.pending ∧ (s.offer e).pins = s.pins ∧ (s.offer e).straps = s.straps ∧
    (s.offer e).line = s.line ∧ (s.offer e).dir = s.dir ∧ (s.offer e).resv = s.resv ∧ (s.offer e).memb = s.memb ∧
    (s.offer e).motion = s.motion ∧ (s.offer e).port = s.port ∧ (s.offer e).fault = s.fault ∧
    (s.offer e).access.phase = s.access.phase ∧ (s.offer e).access.busTimer = s.access.busTimer ∧
    (s.offer e).access.base = s.access.base ∧ (s.offer e).access.slot = s.access.slot ∧
    (s.offer e).access.inTx = s.access.inTx ∧ (s.offer e).access.window = s.access.window ∧
    (s.offer e).access.ownWindow = s.access.ownWindow := by
  simp only [State.offer]
  (repeat' split) <;> simp

/-! ### Rearm -/

@[simp] theorem State.formClaim_keeps (s : State) :
    s.formClaim.pending = s.pending ∧ s.formClaim.pins = s.pins ∧ s.formClaim.straps = s.straps ∧
    s.formClaim.line = s.line ∧ s.formClaim.dir = s.dir ∧ s.formClaim.memb = s.memb ∧ s.formClaim.motion = s.motion ∧
    s.formClaim.port = s.port ∧ s.formClaim.fault = s.fault ∧ s.formClaim.access.phase = s.access.phase ∧
    s.formClaim.access.busTimer = s.access.busTimer ∧ s.formClaim.access.base = s.access.base ∧
    s.formClaim.access.slot = s.access.slot ∧ s.formClaim.access.inTx = s.access.inTx ∧
    s.formClaim.access.window = s.access.window ∧ s.formClaim.access.ownWindow = s.access.ownWindow ∧
    s.formClaim.resv.held = s.resv.held ∧ s.formClaim.resv.tagCounter = s.resv.tagCounter ∧
    s.formClaim.resv.attempt = s.resv.attempt ∧ s.formClaim.resv.attemptSide = s.resv.attemptSide ∧
    s.formClaim.resv.rearm = s.resv.rearm := by
  simp only [State.formClaim]
  (repeat' split) <;> simp

@[simp] theorem State.arm_keeps (s : State) :
    s.arm.pending = s.pending ∧ s.arm.pins = s.pins ∧ s.arm.straps = s.straps ∧ s.arm.line = s.line ∧
    s.arm.dir = s.dir ∧ s.arm.memb = s.memb ∧ s.arm.motion = s.motion ∧ s.arm.port = s.port ∧ s.arm.fault = s.fault ∧
    s.arm.access.phase = s.access.phase ∧ s.arm.access.busTimer = s.access.busTimer ∧
    s.arm.access.base = s.access.base ∧ s.arm.access.slot = s.access.slot ∧ s.arm.access.inTx = s.access.inTx ∧
    s.arm.access.window = s.access.window ∧ s.arm.access.ownWindow = s.access.ownWindow ∧
    s.arm.resv.held = s.resv.held ∧ s.arm.resv.tagCounter = s.resv.tagCounter ∧ s.arm.resv.attempt = s.resv.attempt ∧
    s.arm.resv.attemptSide = s.resv.attemptSide := by
  simp only [State.arm]
  (repeat' split) <;> simp

@[simp] theorem State.waitRearm_keeps (s : State) (watched : List Addr) :
    (s.waitRearm watched).pending = s.pending ∧ (s.waitRearm watched).pins = s.pins ∧
    (s.waitRearm watched).straps = s.straps ∧ (s.waitRearm watched).line = s.line ∧
    (s.waitRearm watched).access = s.access ∧ (s.waitRearm watched).dir = s.dir ∧
    (s.waitRearm watched).memb = s.memb ∧ (s.waitRearm watched).motion = s.motion ∧
    (s.waitRearm watched).port = s.port ∧ (s.waitRearm watched).fault = s.fault ∧
    (s.waitRearm watched).resv.held = s.resv.held ∧ (s.waitRearm watched).resv.claim = s.resv.claim ∧
    (s.waitRearm watched).resv.tagCounter = s.resv.tagCounter ∧ (s.waitRearm watched).resv.attempt = s.resv.attempt ∧
    (s.waitRearm watched).resv.attemptSide = s.resv.attemptSide := by
  simp only [State.waitRearm]
  (repeat' split) <;> simp

@[simp] theorem State.notice_keeps (s : State) (a : Addr) :
    (s.notice a).pending = s.pending ∧ (s.notice a).pins = s.pins ∧ (s.notice a).straps = s.straps ∧
    (s.notice a).line = s.line ∧ (s.notice a).dir = s.dir ∧ (s.notice a).memb = s.memb ∧
    (s.notice a).motion = s.motion ∧ (s.notice a).port = s.port ∧ (s.notice a).fault = s.fault ∧
    (s.notice a).access.phase = s.access.phase ∧ (s.notice a).access.busTimer = s.access.busTimer ∧
    (s.notice a).access.base = s.access.base ∧ (s.notice a).access.slot = s.access.slot ∧
    (s.notice a).access.inTx = s.access.inTx ∧ (s.notice a).access.window = s.access.window ∧
    (s.notice a).access.ownWindow = s.access.ownWindow ∧ (s.notice a).resv.held = s.resv.held ∧
    (s.notice a).resv.tagCounter = s.resv.tagCounter ∧ (s.notice a).resv.attempt = s.resv.attempt ∧
    (s.notice a).resv.attemptSide = s.resv.attemptSide := by
  simp only [State.notice]
  (repeat' split) <;> simp

@[simp] theorem State.setNeed_keeps (s : State) (new : Option Need) :
    (s.setNeed new).pending = s.pending ∧ (s.setNeed new).pins = s.pins ∧ (s.setNeed new).straps = s.straps ∧
    (s.setNeed new).line = s.line ∧ (s.setNeed new).dir = s.dir ∧ (s.setNeed new).memb = s.memb ∧
    (s.setNeed new).port = s.port ∧ (s.setNeed new).fault = s.fault ∧ (s.setNeed new).motion.state = s.motion.state ∧
    (s.setNeed new).motion.p = s.motion.p ∧ (s.setNeed new).motion.known = s.motion.known ∧
    (s.setNeed new).motion.target = s.motion.target ∧ (s.setNeed new).motion.direction = s.motion.direction ∧
    (s.setNeed new).motion.stepTimer = s.motion.stepTimer ∧ (s.setNeed new).motion.stallTimer = s.motion.stallTimer ∧
    (s.setNeed new).motion.mismatch = s.motion.mismatch ∧ (s.setNeed new).motion.reloc = s.motion.reloc ∧
    (s.setNeed new).motion.dirUp = s.motion.dirUp ∧ (s.setNeed new).motion.stepHigh = s.motion.stepHigh ∧
    (s.setNeed new).motion.setupTimer = s.motion.setupTimer ∧
    (s.setNeed new).motion.pulseTimer = s.motion.pulseTimer ∧ (s.setNeed new).access.phase = s.access.phase ∧
    (s.setNeed new).access.busTimer = s.access.busTimer ∧ (s.setNeed new).access.base = s.access.base ∧
    (s.setNeed new).access.slot = s.access.slot ∧ (s.setNeed new).access.inTx = s.access.inTx ∧
    (s.setNeed new).access.window = s.access.window ∧ (s.setNeed new).access.ownWindow = s.access.ownWindow ∧
    (s.setNeed new).resv.held = s.resv.held ∧ (s.setNeed new).resv.tagCounter = s.resv.tagCounter ∧
    (s.setNeed new).resv.attemptSide = s.resv.attemptSide := by
  simp only [State.setNeed]
  (repeat' split) <;> simp

@[simp] theorem State.orphanClaim_keeps (s : State) :
    s.orphanClaim.pending = s.pending ∧ s.orphanClaim.pins = s.pins ∧ s.orphanClaim.straps = s.straps ∧
    s.orphanClaim.line = s.line ∧ s.orphanClaim.access = s.access ∧ s.orphanClaim.dir = s.dir ∧
    s.orphanClaim.memb = s.memb ∧ s.orphanClaim.motion = s.motion ∧ s.orphanClaim.port = s.port ∧
    s.orphanClaim.fault = s.fault ∧ s.orphanClaim.resv.held = s.resv.held := by
  simp only [State.orphanClaim]
  (repeat' split) <;> simp

/-! ### Engine -/

@[simp] theorem State.updateNeed_keeps (s : State) :
    s.updateNeed.pending = s.pending ∧ s.updateNeed.pins = s.pins ∧ s.updateNeed.straps = s.straps ∧
    s.updateNeed.line = s.line ∧ s.updateNeed.dir = s.dir ∧ s.updateNeed.memb = s.memb ∧ s.updateNeed.port = s.port ∧
    s.updateNeed.fault = s.fault ∧ s.updateNeed.motion.state = s.motion.state ∧ s.updateNeed.motion.p = s.motion.p ∧
    s.updateNeed.motion.known = s.motion.known ∧ s.updateNeed.motion.target = s.motion.target ∧
    s.updateNeed.motion.direction = s.motion.direction ∧ s.updateNeed.motion.stepTimer = s.motion.stepTimer ∧
    s.updateNeed.motion.stallTimer = s.motion.stallTimer ∧ s.updateNeed.motion.mismatch = s.motion.mismatch ∧
    s.updateNeed.motion.reloc = s.motion.reloc ∧ s.updateNeed.motion.dirUp = s.motion.dirUp ∧
    s.updateNeed.motion.stepHigh = s.motion.stepHigh ∧ s.updateNeed.motion.setupTimer = s.motion.setupTimer ∧
    s.updateNeed.motion.pulseTimer = s.motion.pulseTimer ∧ s.updateNeed.access.phase = s.access.phase ∧
    s.updateNeed.access.busTimer = s.access.busTimer ∧ s.updateNeed.access.base = s.access.base ∧
    s.updateNeed.access.slot = s.access.slot ∧ s.updateNeed.access.inTx = s.access.inTx ∧
    s.updateNeed.access.window = s.access.window ∧ s.updateNeed.access.ownWindow = s.access.ownWindow ∧
    s.updateNeed.resv.held = s.resv.held := by
  simp only [State.updateNeed]
  (repeat' split) <;> simp

@[simp] theorem State.onHeldChange_keeps (s : State) :
    s.onHeldChange.pending = s.pending ∧ s.onHeldChange.pins = s.pins ∧ s.onHeldChange.straps = s.straps ∧
    s.onHeldChange.line = s.line ∧ s.onHeldChange.dir = s.dir ∧ s.onHeldChange.memb = s.memb ∧
    s.onHeldChange.port = s.port ∧ s.onHeldChange.fault = s.fault ∧ s.onHeldChange.motion.p = s.motion.p ∧
    s.onHeldChange.motion.known = s.motion.known ∧ s.onHeldChange.motion.target = s.motion.target ∧
    s.onHeldChange.motion.direction = s.motion.direction ∧ s.onHeldChange.motion.mismatch = s.motion.mismatch ∧
    s.onHeldChange.motion.dirUp = s.motion.dirUp ∧ s.onHeldChange.motion.stepHigh = s.motion.stepHigh ∧
    s.onHeldChange.motion.setupTimer = s.motion.setupTimer ∧ s.onHeldChange.motion.pulseTimer = s.motion.pulseTimer ∧
    s.onHeldChange.access.phase = s.access.phase ∧ s.onHeldChange.access.busTimer = s.access.busTimer ∧
    s.onHeldChange.access.base = s.access.base ∧ s.onHeldChange.access.slot = s.access.slot ∧
    s.onHeldChange.access.inTx = s.access.inTx ∧ s.onHeldChange.access.window = s.access.window ∧
    s.onHeldChange.access.ownWindow = s.access.ownWindow ∧ s.onHeldChange.resv.held = s.resv.held := by
  simp only [State.onHeldChange]
  (repeat' split) <;> simp

@[simp] theorem State.setHeld_keeps (s : State) (h : ZRange) :
    (s.setHeld h).pending = s.pending ∧ (s.setHeld h).pins = s.pins ∧ (s.setHeld h).straps = s.straps ∧
    (s.setHeld h).line = s.line ∧ (s.setHeld h).dir = s.dir ∧ (s.setHeld h).memb = s.memb ∧
    (s.setHeld h).port = s.port ∧ (s.setHeld h).fault = s.fault ∧ (s.setHeld h).motion.p = s.motion.p ∧
    (s.setHeld h).motion.known = s.motion.known ∧ (s.setHeld h).motion.target = s.motion.target ∧
    (s.setHeld h).motion.direction = s.motion.direction ∧ (s.setHeld h).motion.mismatch = s.motion.mismatch ∧
    (s.setHeld h).motion.dirUp = s.motion.dirUp ∧ (s.setHeld h).motion.stepHigh = s.motion.stepHigh ∧
    (s.setHeld h).motion.setupTimer = s.motion.setupTimer ∧ (s.setHeld h).motion.pulseTimer = s.motion.pulseTimer ∧
    (s.setHeld h).access.phase = s.access.phase ∧ (s.setHeld h).access.busTimer = s.access.busTimer ∧
    (s.setHeld h).access.base = s.access.base ∧ (s.setHeld h).access.slot = s.access.slot ∧
    (s.setHeld h).access.inTx = s.access.inTx ∧ (s.setHeld h).access.window = s.access.window ∧
    (s.setHeld h).access.ownWindow = s.access.ownWindow := by
  simp only [State.setHeld]
  (repeat' split) <;> simp

@[simp] theorem State.release_keeps (s : State) (r : ZRange) (side : Side) :
    (s.release r side).pending = s.pending ∧ (s.release r side).pins = s.pins ∧
    (s.release r side).straps = s.straps ∧ (s.release r side).line = s.line ∧ (s.release r side).dir = s.dir ∧
    (s.release r side).memb = s.memb ∧ (s.release r side).port = s.port ∧ (s.release r side).fault = s.fault ∧
    (s.release r side).motion.p = s.motion.p ∧ (s.release r side).motion.known = s.motion.known ∧
    (s.release r side).motion.target = s.motion.target ∧ (s.release r side).motion.direction = s.motion.direction ∧
    (s.release r side).motion.mismatch = s.motion.mismatch ∧ (s.release r side).motion.dirUp = s.motion.dirUp ∧
    (s.release r side).motion.stepHigh = s.motion.stepHigh ∧
    (s.release r side).motion.setupTimer = s.motion.setupTimer ∧
    (s.release r side).motion.pulseTimer = s.motion.pulseTimer ∧ (s.release r side).access.phase = s.access.phase ∧
    (s.release r side).access.busTimer = s.access.busTimer ∧ (s.release r side).access.base = s.access.base ∧
    (s.release r side).access.slot = s.access.slot ∧ (s.release r side).access.inTx = s.access.inTx ∧
    (s.release r side).access.window = s.access.window ∧ (s.release r side).access.ownWindow = s.access.ownWindow := by
  simp only [State.release]
  (repeat' split) <;> simp

@[simp] theorem State.releaseBelow_keeps (s : State) (z : Nat) :
    (s.releaseBelow z).pending = s.pending ∧ (s.releaseBelow z).pins = s.pins ∧
    (s.releaseBelow z).straps = s.straps ∧ (s.releaseBelow z).line = s.line ∧ (s.releaseBelow z).dir = s.dir ∧
    (s.releaseBelow z).memb = s.memb ∧ (s.releaseBelow z).port = s.port ∧ (s.releaseBelow z).fault = s.fault ∧
    (s.releaseBelow z).motion.p = s.motion.p ∧ (s.releaseBelow z).motion.known = s.motion.known ∧
    (s.releaseBelow z).motion.target = s.motion.target ∧ (s.releaseBelow z).motion.direction = s.motion.direction ∧
    (s.releaseBelow z).motion.mismatch = s.motion.mismatch ∧ (s.releaseBelow z).motion.dirUp = s.motion.dirUp ∧
    (s.releaseBelow z).motion.stepHigh = s.motion.stepHigh ∧
    (s.releaseBelow z).motion.setupTimer = s.motion.setupTimer ∧
    (s.releaseBelow z).motion.pulseTimer = s.motion.pulseTimer ∧ (s.releaseBelow z).access.phase = s.access.phase ∧
    (s.releaseBelow z).access.busTimer = s.access.busTimer ∧ (s.releaseBelow z).access.base = s.access.base ∧
    (s.releaseBelow z).access.slot = s.access.slot ∧ (s.releaseBelow z).access.inTx = s.access.inTx ∧
    (s.releaseBelow z).access.window = s.access.window ∧ (s.releaseBelow z).access.ownWindow = s.access.ownWindow := by
  simp only [State.releaseBelow]
  (repeat' split) <;> simp

@[simp] theorem State.releaseAbove_keeps (s : State) (z : Nat) :
    (s.releaseAbove z).pending = s.pending ∧ (s.releaseAbove z).pins = s.pins ∧
    (s.releaseAbove z).straps = s.straps ∧ (s.releaseAbove z).line = s.line ∧ (s.releaseAbove z).dir = s.dir ∧
    (s.releaseAbove z).memb = s.memb ∧ (s.releaseAbove z).port = s.port ∧ (s.releaseAbove z).fault = s.fault ∧
    (s.releaseAbove z).motion.p = s.motion.p ∧ (s.releaseAbove z).motion.known = s.motion.known ∧
    (s.releaseAbove z).motion.target = s.motion.target ∧ (s.releaseAbove z).motion.direction = s.motion.direction ∧
    (s.releaseAbove z).motion.mismatch = s.motion.mismatch ∧ (s.releaseAbove z).motion.dirUp = s.motion.dirUp ∧
    (s.releaseAbove z).motion.stepHigh = s.motion.stepHigh ∧
    (s.releaseAbove z).motion.setupTimer = s.motion.setupTimer ∧
    (s.releaseAbove z).motion.pulseTimer = s.motion.pulseTimer ∧ (s.releaseAbove z).access.phase = s.access.phase ∧
    (s.releaseAbove z).access.busTimer = s.access.busTimer ∧ (s.releaseAbove z).access.base = s.access.base ∧
    (s.releaseAbove z).access.slot = s.access.slot ∧ (s.releaseAbove z).access.inTx = s.access.inTx ∧
    (s.releaseAbove z).access.window = s.access.window ∧ (s.releaseAbove z).access.ownWindow = s.access.ownWindow := by
  simp only [State.releaseAbove]
  (repeat' split) <;> simp

@[simp] theorem State.trim_keeps (s : State) :
    s.trim.pending = s.pending ∧ s.trim.pins = s.pins ∧ s.trim.straps = s.straps ∧ s.trim.line = s.line ∧
    s.trim.dir = s.dir ∧ s.trim.memb = s.memb ∧ s.trim.port = s.port ∧ s.trim.fault = s.fault ∧
    s.trim.motion.p = s.motion.p ∧ s.trim.motion.known = s.motion.known ∧ s.trim.motion.target = s.motion.target ∧
    s.trim.motion.direction = s.motion.direction ∧ s.trim.motion.mismatch = s.motion.mismatch ∧
    s.trim.motion.dirUp = s.motion.dirUp ∧ s.trim.motion.stepHigh = s.motion.stepHigh ∧
    s.trim.motion.setupTimer = s.motion.setupTimer ∧ s.trim.motion.pulseTimer = s.motion.pulseTimer ∧
    s.trim.access.phase = s.access.phase ∧ s.trim.access.busTimer = s.access.busTimer ∧
    s.trim.access.base = s.access.base ∧ s.trim.access.slot = s.access.slot ∧ s.trim.access.inTx = s.access.inTx ∧
    s.trim.access.window = s.access.window ∧ s.trim.access.ownWindow = s.access.ownWindow := by
  simp only [State.trim]
  (repeat' split) <;> simp

@[simp] theorem State.endMove_keeps (s : State) (reason : EndReason) :
    (s.endMove reason).pending = s.pending ∧ (s.endMove reason).pins = s.pins ∧
    (s.endMove reason).straps = s.straps ∧ (s.endMove reason).line = s.line ∧ (s.endMove reason).dir = s.dir ∧
    (s.endMove reason).memb = s.memb ∧ (s.endMove reason).fault = s.fault ∧
    (s.endMove reason).motion.p = s.motion.p ∧ (s.endMove reason).motion.known = s.motion.known ∧
    (s.endMove reason).motion.mismatch = s.motion.mismatch ∧ (s.endMove reason).motion.dirUp = s.motion.dirUp ∧
    (s.endMove reason).motion.stepHigh = s.motion.stepHigh ∧
    (s.endMove reason).motion.pulseTimer = s.motion.pulseTimer ∧ (s.endMove reason).access.phase = s.access.phase ∧
    (s.endMove reason).access.busTimer = s.access.busTimer ∧ (s.endMove reason).access.base = s.access.base ∧
    (s.endMove reason).access.slot = s.access.slot ∧ (s.endMove reason).access.inTx = s.access.inTx ∧
    (s.endMove reason).access.window = s.access.window ∧ (s.endMove reason).access.ownWindow = s.access.ownWindow ∧
    (s.endMove reason).port.cfg = s.port.cfg ∧ (s.endMove reason).port.response = s.port.response ∧
    (s.endMove reason).port.shiftedOut = s.port.shiftedOut := by
  simp only [State.endMove]
  (repeat' split) <;> simp

theorem State.endMove_of_not_idle (s : State) (reason : EndReason) (h : (s.motion.state = .idle) = False) :
    (s.endMove reason).resv.held = s.resv.held ∧ (s.endMove reason).motion.state = s.motion.state := by
  simp [State.endMove, h]

@[simp] theorem State.endRelocate_keeps (s : State) (reason : EndReason) (after : MotionState) :
    (s.endRelocate reason after).pending = s.pending ∧ (s.endRelocate reason after).pins = s.pins ∧
    (s.endRelocate reason after).straps = s.straps ∧ (s.endRelocate reason after).line = s.line ∧
    (s.endRelocate reason after).dir = s.dir ∧ (s.endRelocate reason after).memb = s.memb ∧
    (s.endRelocate reason after).fault = s.fault ∧ (s.endRelocate reason after).motion.p = s.motion.p ∧
    (s.endRelocate reason after).motion.known = s.motion.known ∧
    (s.endRelocate reason after).motion.mismatch = s.motion.mismatch ∧
    (s.endRelocate reason after).motion.dirUp = s.motion.dirUp ∧
    (s.endRelocate reason after).motion.stepHigh = s.motion.stepHigh ∧
    (s.endRelocate reason after).motion.pulseTimer = s.motion.pulseTimer ∧
    (s.endRelocate reason after).access.phase = s.access.phase ∧
    (s.endRelocate reason after).access.busTimer = s.access.busTimer ∧
    (s.endRelocate reason after).access.base = s.access.base ∧
    (s.endRelocate reason after).access.slot = s.access.slot ∧
    (s.endRelocate reason after).access.inTx = s.access.inTx ∧
    (s.endRelocate reason after).access.window = s.access.window ∧
    (s.endRelocate reason after).access.ownWindow = s.access.ownWindow ∧
    (s.endRelocate reason after).port.cfg = s.port.cfg ∧
    (s.endRelocate reason after).port.response = s.port.response ∧
    (s.endRelocate reason after).port.shiftedOut = s.port.shiftedOut ∧
    (s.endRelocate reason after).resv.held = s.resv.held := by
  simp only [State.endRelocate]
  (repeat' split) <;> simp

@[simp] theorem State.enterDirection_keeps (s : State) (r : RelocRecord) :
    (s.enterDirection r).pending = s.pending ∧ (s.enterDirection r).pins = s.pins ∧
    (s.enterDirection r).straps = s.straps ∧ (s.enterDirection r).line = s.line ∧ (s.enterDirection r).dir = s.dir ∧
    (s.enterDirection r).memb = s.memb ∧ (s.enterDirection r).port = s.port ∧ (s.enterDirection r).fault = s.fault ∧
    (s.enterDirection r).motion.p = s.motion.p ∧ (s.enterDirection r).motion.known = s.motion.known ∧
    (s.enterDirection r).motion.target = s.motion.target ∧
    (s.enterDirection r).motion.direction = s.motion.direction ∧
    (s.enterDirection r).motion.mismatch = s.motion.mismatch ∧ (s.enterDirection r).motion.dirUp = s.motion.dirUp ∧
    (s.enterDirection r).motion.stepHigh = s.motion.stepHigh ∧
    (s.enterDirection r).motion.setupTimer = s.motion.setupTimer ∧
    (s.enterDirection r).motion.pulseTimer = s.motion.pulseTimer ∧
    (s.enterDirection r).motion.state = s.motion.state ∧ (s.enterDirection r).access.phase = s.access.phase ∧
    (s.enterDirection r).access.busTimer = s.access.busTimer ∧ (s.enterDirection r).access.base = s.access.base ∧
    (s.enterDirection r).access.slot = s.access.slot ∧ (s.enterDirection r).access.inTx = s.access.inTx ∧
    (s.enterDirection r).access.window = s.access.window ∧
    (s.enterDirection r).access.ownWindow = s.access.ownWindow ∧ (s.enterDirection r).resv.held = s.resv.held := by
  simp only [State.enterDirection]
  (repeat' split) <;> simp

@[simp] theorem State.relocateUp_keeps (s : State) (r : RelocRecord) :
    (s.relocateUp r).pending = s.pending ∧ (s.relocateUp r).pins = s.pins ∧ (s.relocateUp r).straps = s.straps ∧
    (s.relocateUp r).line = s.line ∧ (s.relocateUp r).dir = s.dir ∧ (s.relocateUp r).memb = s.memb ∧
    (s.relocateUp r).fault = s.fault ∧ (s.relocateUp r).motion.p = s.motion.p ∧
    (s.relocateUp r).motion.known = s.motion.known ∧ (s.relocateUp r).motion.mismatch = s.motion.mismatch ∧
    (s.relocateUp r).motion.dirUp = s.motion.dirUp ∧ (s.relocateUp r).motion.stepHigh = s.motion.stepHigh ∧
    (s.relocateUp r).motion.pulseTimer = s.motion.pulseTimer ∧ (s.relocateUp r).access.phase = s.access.phase ∧
    (s.relocateUp r).access.busTimer = s.access.busTimer ∧ (s.relocateUp r).access.base = s.access.base ∧
    (s.relocateUp r).access.slot = s.access.slot ∧ (s.relocateUp r).access.inTx = s.access.inTx ∧
    (s.relocateUp r).access.window = s.access.window ∧ (s.relocateUp r).access.ownWindow = s.access.ownWindow ∧
    (s.relocateUp r).port.cfg = s.port.cfg ∧ (s.relocateUp r).port.response = s.port.response ∧
    (s.relocateUp r).port.shiftedOut = s.port.shiftedOut ∧ (s.relocateUp r).resv.held = s.resv.held := by
  simp only [State.relocateUp]
  (repeat' split) <;> simp

@[simp] theorem State.chooseDirection_keeps (s : State) (r : RelocRecord) :
    (s.chooseDirection r).pending = s.pending ∧ (s.chooseDirection r).pins = s.pins ∧
    (s.chooseDirection r).straps = s.straps ∧ (s.chooseDirection r).line = s.line ∧
    (s.chooseDirection r).dir = s.dir ∧ (s.chooseDirection r).memb = s.memb ∧ (s.chooseDirection r).fault = s.fault ∧
    (s.chooseDirection r).motion.p = s.motion.p ∧ (s.chooseDirection r).motion.known = s.motion.known ∧
    (s.chooseDirection r).motion.mismatch = s.motion.mismatch ∧ (s.chooseDirection r).motion.dirUp = s.motion.dirUp ∧
    (s.chooseDirection r).motion.stepHigh = s.motion.stepHigh ∧
    (s.chooseDirection r).motion.pulseTimer = s.motion.pulseTimer ∧
    (s.chooseDirection r).access.phase = s.access.phase ∧ (s.chooseDirection r).access.busTimer = s.access.busTimer ∧
    (s.chooseDirection r).access.base = s.access.base ∧ (s.chooseDirection r).access.slot = s.access.slot ∧
    (s.chooseDirection r).access.inTx = s.access.inTx ∧ (s.chooseDirection r).access.window = s.access.window ∧
    (s.chooseDirection r).access.ownWindow = s.access.ownWindow ∧ (s.chooseDirection r).port.cfg = s.port.cfg ∧
    (s.chooseDirection r).port.response = s.port.response ∧
    (s.chooseDirection r).port.shiftedOut = s.port.shiftedOut ∧ (s.chooseDirection r).resv.held = s.resv.held := by
  simp only [State.chooseDirection]
  (repeat' split) <;> simp

@[simp] theorem State.onClaimFailed_keeps (s : State) (side : Side) :
    (s.onClaimFailed side).pending = s.pending ∧ (s.onClaimFailed side).pins = s.pins ∧
    (s.onClaimFailed side).straps = s.straps ∧ (s.onClaimFailed side).line = s.line ∧
    (s.onClaimFailed side).dir = s.dir ∧ (s.onClaimFailed side).memb = s.memb ∧
    (s.onClaimFailed side).fault = s.fault ∧ (s.onClaimFailed side).motion.p = s.motion.p ∧
    (s.onClaimFailed side).motion.known = s.motion.known ∧
    (s.onClaimFailed side).motion.mismatch = s.motion.mismatch ∧
    (s.onClaimFailed side).motion.dirUp = s.motion.dirUp ∧
    (s.onClaimFailed side).motion.stepHigh = s.motion.stepHigh ∧
    (s.onClaimFailed side).motion.pulseTimer = s.motion.pulseTimer ∧
    (s.onClaimFailed side).access.phase = s.access.phase ∧
    (s.onClaimFailed side).access.busTimer = s.access.busTimer ∧ (s.onClaimFailed side).access.base = s.access.base ∧
    (s.onClaimFailed side).access.slot = s.access.slot ∧ (s.onClaimFailed side).access.inTx = s.access.inTx ∧
    (s.onClaimFailed side).access.window = s.access.window ∧
    (s.onClaimFailed side).access.ownWindow = s.access.ownWindow ∧ (s.onClaimFailed side).port.cfg = s.port.cfg ∧
    (s.onClaimFailed side).port.response = s.port.response ∧
    (s.onClaimFailed side).port.shiftedOut = s.port.shiftedOut ∧ (s.onClaimFailed side).resv.held = s.resv.held := by
  simp only [State.onClaimFailed]
  (repeat' split) <;> simp

@[simp] theorem State.forceHalt_keeps (s : State) (cause : FaultCause) :
    (s.forceHalt cause).pending = s.pending ∧ (s.forceHalt cause).pins = s.pins ∧
    (s.forceHalt cause).straps = s.straps ∧ (s.forceHalt cause).line = s.line ∧ (s.forceHalt cause).dir = s.dir ∧
    (s.forceHalt cause).memb = s.memb ∧ (s.forceHalt cause).fault = s.fault ∧
    (s.forceHalt cause).motion.p = s.motion.p ∧ (s.forceHalt cause).motion.mismatch = s.motion.mismatch ∧
    (s.forceHalt cause).motion.dirUp = s.motion.dirUp ∧ (s.forceHalt cause).access.phase = s.access.phase ∧
    (s.forceHalt cause).access.busTimer = s.access.busTimer ∧ (s.forceHalt cause).access.base = s.access.base ∧
    (s.forceHalt cause).access.slot = s.access.slot ∧ (s.forceHalt cause).access.inTx = s.access.inTx ∧
    (s.forceHalt cause).access.window = s.access.window ∧ (s.forceHalt cause).access.ownWindow = s.access.ownWindow ∧
    (s.forceHalt cause).port.cfg = s.port.cfg ∧ (s.forceHalt cause).port.response = s.port.response ∧
    (s.forceHalt cause).port.shiftedOut = s.port.shiftedOut ∧ (s.forceHalt cause).resv.held = s.resv.held := by
  simp only [State.forceHalt]
  (repeat' split) <;> simp [State.endMove_of_not_idle]

/-- A report that the latch takes leaves the reset side of the unit as it was. -/
theorem FaultUnit.take_keeps {f g : FaultUnit} {r : FaultReport} (h : f.take r = some g) :
    g.phase = f.phase ∧ g.resetCause = f.resetCause ∧ g.powerOnTimer = f.powerOnTimer := by
  unfold FaultUnit.take at h
  split at h <;> (try split at h) <;> simp at h <;> subst h <;> simp

@[simp] theorem State.reportFault_keeps (s : State) (r : FaultReport) :
    (s.reportFault r).pending = s.pending ∧ (s.reportFault r).pins = s.pins ∧ (s.reportFault r).straps = s.straps ∧
    (s.reportFault r).line = s.line ∧ (s.reportFault r).dir = s.dir ∧ (s.reportFault r).memb = s.memb ∧
    (s.reportFault r).motion.p = s.motion.p ∧ (s.reportFault r).motion.mismatch = s.motion.mismatch ∧
    (s.reportFault r).motion.dirUp = s.motion.dirUp ∧ (s.reportFault r).access.phase = s.access.phase ∧
    (s.reportFault r).access.busTimer = s.access.busTimer ∧ (s.reportFault r).access.base = s.access.base ∧
    (s.reportFault r).access.slot = s.access.slot ∧ (s.reportFault r).access.inTx = s.access.inTx ∧
    (s.reportFault r).access.window = s.access.window ∧ (s.reportFault r).access.ownWindow = s.access.ownWindow ∧
    (s.reportFault r).port.cfg = s.port.cfg ∧ (s.reportFault r).port.response = s.port.response ∧
    (s.reportFault r).port.shiftedOut = s.port.shiftedOut ∧ (s.reportFault r).resv.held = s.resv.held ∧
    (s.reportFault r).fault.phase = s.fault.phase ∧ (s.reportFault r).fault.resetCause = s.fault.resetCause ∧
    (s.reportFault r).fault.powerOnTimer = s.fault.powerOnTimer := by
  simp only [State.reportFault]
  split
  · simp
  · next f hf => simp [FaultUnit.take_keeps hf]

/-! ### PeerDirectory -/

@[simp] theorem State.setEntry_keeps (s : State) (a : Addr) (st : PeerState) (e : PeerEntry) :
    (s.setEntry a st e).pending = s.pending ∧ (s.setEntry a st e).pins = s.pins ∧
    (s.setEntry a st e).straps = s.straps ∧ (s.setEntry a st e).line = s.line ∧
    (s.setEntry a st e).access = s.access ∧ (s.setEntry a st e).resv = s.resv ∧ (s.setEntry a st e).memb = s.memb ∧
    (s.setEntry a st e).motion = s.motion ∧ (s.setEntry a st e).port = s.port ∧ (s.setEntry a st e).fault = s.fault := by
  simp only [State.setEntry]
  (repeat' split) <;> simp

@[simp] theorem State.noticeChange_keeps (after before : State) (a : Addr) :
    (after.noticeChange before a).pending = after.pending ∧
    (after.noticeChange before a).pins = after.pins ∧
    (after.noticeChange before a).straps = after.straps ∧
    (after.noticeChange before a).line = after.line ∧
    (after.noticeChange before a).dir = after.dir ∧
    (after.noticeChange before a).memb = after.memb ∧
    (after.noticeChange before a).motion = after.motion ∧
    (after.noticeChange before a).port = after.port ∧
    (after.noticeChange before a).fault = after.fault ∧
    (after.noticeChange before a).access.phase = after.access.phase ∧
    (after.noticeChange before a).access.busTimer = after.access.busTimer ∧
    (after.noticeChange before a).access.base = after.access.base ∧
    (after.noticeChange before a).access.slot = after.access.slot ∧
    (after.noticeChange before a).access.inTx = after.access.inTx ∧
    (after.noticeChange before a).access.window = after.access.window ∧
    (after.noticeChange before a).access.ownWindow = after.access.ownWindow ∧
    (after.noticeChange before a).resv.held = after.resv.held ∧
    (after.noticeChange before a).resv.tagCounter = after.resv.tagCounter ∧
    (after.noticeChange before a).resv.attempt = after.resv.attempt ∧
    (after.noticeChange before a).resv.attemptSide = after.resv.attemptSide := by
  simp only [State.noticeChange]
  (repeat' split) <;> simp

@[simp] theorem State.touch_keeps (s : State) (a : Addr) :
    (s.touch a).pending = s.pending ∧ (s.touch a).pins = s.pins ∧ (s.touch a).straps = s.straps ∧
    (s.touch a).line = s.line ∧ (s.touch a).access = s.access ∧ (s.touch a).resv = s.resv ∧
    (s.touch a).memb = s.memb ∧ (s.touch a).motion = s.motion ∧ (s.touch a).port = s.port ∧
    (s.touch a).fault = s.fault ∧ (s.touch a).dir.eviction = s.dir.eviction := by
  simp only [State.touch]
  (repeat' split) <;> simp

@[simp] theorem State.presentEvent_keeps (s : State) (a : Addr) (old : PeerState) :
    (s.presentEvent a old).pending = s.pending ∧ (s.presentEvent a old).pins = s.pins ∧
    (s.presentEvent a old).straps = s.straps ∧ (s.presentEvent a old).line = s.line ∧
    (s.presentEvent a old).access = s.access ∧ (s.presentEvent a old).dir = s.dir ∧
    (s.presentEvent a old).resv = s.resv ∧ (s.presentEvent a old).memb = s.memb ∧
    (s.presentEvent a old).motion = s.motion ∧ (s.presentEvent a old).fault = s.fault ∧
    (s.presentEvent a old).port.cfg = s.port.cfg ∧ (s.presentEvent a old).port.response = s.port.response ∧
    (s.presentEvent a old).port.shiftedOut = s.port.shiftedOut := by
  simp only [State.presentEvent]
  (repeat' split) <;> simp

@[simp] theorem State.dirPresence_keeps (s : State) (x : Addr) (held occupied : ZRange) (mode : MotionState) :
    (s.dirPresence x held occupied mode).pending = s.pending ∧ (s.dirPresence x held occupied mode).pins = s.pins ∧
    (s.dirPresence x held occupied mode).straps = s.straps ∧ (s.dirPresence x held occupied mode).line = s.line ∧
    (s.dirPresence x held occupied mode).memb = s.memb ∧ (s.dirPresence x held occupied mode).motion.p = s.motion.p ∧
    (s.dirPresence x held occupied mode).motion.mismatch = s.motion.mismatch ∧
    (s.dirPresence x held occupied mode).motion.dirUp = s.motion.dirUp ∧
    (s.dirPresence x held occupied mode).access.phase = s.access.phase ∧
    (s.dirPresence x held occupied mode).access.busTimer = s.access.busTimer ∧
    (s.dirPresence x held occupied mode).access.base = s.access.base ∧
    (s.dirPresence x held occupied mode).access.slot = s.access.slot ∧
    (s.dirPresence x held occupied mode).access.inTx = s.access.inTx ∧
    (s.dirPresence x held occupied mode).access.window = s.access.window ∧
    (s.dirPresence x held occupied mode).access.ownWindow = s.access.ownWindow ∧
    (s.dirPresence x held occupied mode).port.cfg = s.port.cfg ∧
    (s.dirPresence x held occupied mode).port.response = s.port.response ∧
    (s.dirPresence x held occupied mode).port.shiftedOut = s.port.shiftedOut ∧
    (s.dirPresence x held occupied mode).resv.held = s.resv.held ∧
    (s.dirPresence x held occupied mode).fault.phase = s.fault.phase ∧
    (s.dirPresence x held occupied mode).fault.resetCause = s.fault.resetCause ∧
    (s.dirPresence x held occupied mode).fault.powerOnTimer = s.fault.powerOnTimer := by
  simp only [State.dirPresence]
  (repeat' split) <;> simp

@[simp] theorem State.dirGrant_keeps (s : State) (x : Addr) (g : ZRange) :
    (s.dirGrant x g).pending = s.pending ∧ (s.dirGrant x g).pins = s.pins ∧ (s.dirGrant x g).straps = s.straps ∧
    (s.dirGrant x g).line = s.line ∧ (s.dirGrant x g).memb = s.memb ∧ (s.dirGrant x g).motion = s.motion ∧
    (s.dirGrant x g).fault = s.fault ∧ (s.dirGrant x g).access.phase = s.access.phase ∧
    (s.dirGrant x g).access.busTimer = s.access.busTimer ∧ (s.dirGrant x g).access.base = s.access.base ∧
    (s.dirGrant x g).access.slot = s.access.slot ∧ (s.dirGrant x g).access.inTx = s.access.inTx ∧
    (s.dirGrant x g).access.window = s.access.window ∧ (s.dirGrant x g).access.ownWindow = s.access.ownWindow ∧
    (s.dirGrant x g).port.cfg = s.port.cfg ∧ (s.dirGrant x g).port.response = s.port.response ∧
    (s.dirGrant x g).port.shiftedOut = s.port.shiftedOut ∧ (s.dirGrant x g).resv.held = s.resv.held := by
  simp only [State.dirGrant]
  (repeat' split) <;> simp

@[simp] theorem State.dirRelease_keeps (s : State) (x : Addr) (r : ZRange) :
    (s.dirRelease x r).pending = s.pending ∧ (s.dirRelease x r).pins = s.pins ∧
    (s.dirRelease x r).straps = s.straps ∧ (s.dirRelease x r).line = s.line ∧ (s.dirRelease x r).memb = s.memb ∧
    (s.dirRelease x r).motion = s.motion ∧ (s.dirRelease x r).port = s.port ∧ (s.dirRelease x r).fault = s.fault ∧
    (s.dirRelease x r).access.phase = s.access.phase ∧ (s.dirRelease x r).access.busTimer = s.access.busTimer ∧
    (s.dirRelease x r).access.base = s.access.base ∧ (s.dirRelease x r).access.slot = s.access.slot ∧
    (s.dirRelease x r).access.inTx = s.access.inTx ∧ (s.dirRelease x r).access.window = s.access.window ∧
    (s.dirRelease x r).access.ownWindow = s.access.ownWindow ∧ (s.dirRelease x r).resv.held = s.resv.held ∧
    (s.dirRelease x r).dir.eviction = s.dir.eviction := by
  simp only [State.dirRelease]
  (repeat' split) <;> simp

@[simp] theorem State.dirJoin_keeps (s : State) (x : Addr) (j : ZRange) :
    (s.dirJoin x j).pending = s.pending ∧ (s.dirJoin x j).pins = s.pins ∧ (s.dirJoin x j).straps = s.straps ∧
    (s.dirJoin x j).line = s.line ∧ (s.dirJoin x j).memb = s.memb ∧ (s.dirJoin x j).motion = s.motion ∧
    (s.dirJoin x j).port = s.port ∧ (s.dirJoin x j).fault = s.fault ∧ (s.dirJoin x j).access.phase = s.access.phase ∧
    (s.dirJoin x j).access.busTimer = s.access.busTimer ∧ (s.dirJoin x j).access.base = s.access.base ∧
    (s.dirJoin x j).access.slot = s.access.slot ∧ (s.dirJoin x j).access.inTx = s.access.inTx ∧
    (s.dirJoin x j).access.window = s.access.window ∧ (s.dirJoin x j).access.ownWindow = s.access.ownWindow ∧
    (s.dirJoin x j).resv.held = s.resv.held := by
  simp only [State.dirJoin]
  (repeat' split) <;> simp

@[simp] theorem State.dirEvict_keeps (s : State) (y : Addr) :
    (s.dirEvict y).pending = s.pending ∧ (s.dirEvict y).pins = s.pins ∧ (s.dirEvict y).straps = s.straps ∧
    (s.dirEvict y).line = s.line ∧ (s.dirEvict y).memb = s.memb ∧ (s.dirEvict y).motion = s.motion ∧
    (s.dirEvict y).port = s.port ∧ (s.dirEvict y).fault = s.fault ∧ (s.dirEvict y).access.phase = s.access.phase ∧
    (s.dirEvict y).access.busTimer = s.access.busTimer ∧ (s.dirEvict y).access.base = s.access.base ∧
    (s.dirEvict y).access.slot = s.access.slot ∧ (s.dirEvict y).access.inTx = s.access.inTx ∧
    (s.dirEvict y).access.window = s.access.window ∧ (s.dirEvict y).access.ownWindow = s.access.ownWindow ∧
    (s.dirEvict y).resv.held = s.resv.held := by
  simp only [State.dirEvict]
  (repeat' split) <;> simp

@[simp] theorem State.dirRefuse_keeps (s : State) (sender answered : Addr) (tag : Tag) (reason : RefuseReason) :
    (s.dirRefuse sender answered tag reason).pending = s.pending ∧
    (s.dirRefuse sender answered tag reason).pins = s.pins ∧
    (s.dirRefuse sender answered tag reason).straps = s.straps ∧
    (s.dirRefuse sender answered tag reason).line = s.line ∧
    (s.dirRefuse sender answered tag reason).access = s.access ∧
    (s.dirRefuse sender answered tag reason).resv = s.resv ∧ (s.dirRefuse sender answered tag reason).memb = s.memb ∧
    (s.dirRefuse sender answered tag reason).motion = s.motion ∧
    (s.dirRefuse sender answered tag reason).port = s.port ∧
    (s.dirRefuse sender answered tag reason).fault = s.fault ∧
    (s.dirRefuse sender answered tag reason).dir.entries = s.dir.entries := by
  simp only [State.dirRefuse]
  (repeat' split) <;> simp

@[simp] theorem State.dirTake_keeps (s : State) (sender : Addr) (f : Option Frame) :
    (s.dirTake sender f).pending = s.pending ∧ (s.dirTake sender f).pins = s.pins ∧
    (s.dirTake sender f).straps = s.straps ∧ (s.dirTake sender f).line = s.line ∧
    (s.dirTake sender f).memb = s.memb ∧ (s.dirTake sender f).motion.p = s.motion.p ∧
    (s.dirTake sender f).motion.mismatch = s.motion.mismatch ∧ (s.dirTake sender f).motion.dirUp = s.motion.dirUp ∧
    (s.dirTake sender f).access.phase = s.access.phase ∧ (s.dirTake sender f).access.busTimer = s.access.busTimer ∧
    (s.dirTake sender f).access.base = s.access.base ∧ (s.dirTake sender f).access.slot = s.access.slot ∧
    (s.dirTake sender f).access.inTx = s.access.inTx ∧ (s.dirTake sender f).access.window = s.access.window ∧
    (s.dirTake sender f).access.ownWindow = s.access.ownWindow ∧ (s.dirTake sender f).port.cfg = s.port.cfg ∧
    (s.dirTake sender f).port.response = s.port.response ∧ (s.dirTake sender f).port.shiftedOut = s.port.shiftedOut ∧
    (s.dirTake sender f).resv.held = s.resv.held ∧ (s.dirTake sender f).fault.phase = s.fault.phase ∧
    (s.dirTake sender f).fault.resetCause = s.fault.resetCause ∧
    (s.dirTake sender f).fault.powerOnTimer = s.fault.powerOnTimer := by
  simp only [State.dirTake]
  (repeat' split) <;> simp

@[simp] theorem State.silence_keeps (s : State) (a : Addr) :
    (s.silence a).pending = s.pending ∧ (s.silence a).pins = s.pins ∧ (s.silence a).straps = s.straps ∧
    (s.silence a).line = s.line ∧ (s.silence a).memb = s.memb ∧ (s.silence a).motion = s.motion ∧
    (s.silence a).fault = s.fault ∧ (s.silence a).access.phase = s.access.phase ∧
    (s.silence a).access.busTimer = s.access.busTimer ∧ (s.silence a).access.base = s.access.base ∧
    (s.silence a).access.slot = s.access.slot ∧ (s.silence a).access.inTx = s.access.inTx ∧
    (s.silence a).access.window = s.access.window ∧ (s.silence a).access.ownWindow = s.access.ownWindow ∧
    (s.silence a).port.cfg = s.port.cfg ∧ (s.silence a).port.response = s.port.response ∧
    (s.silence a).port.shiftedOut = s.port.shiftedOut ∧ (s.silence a).resv.held = s.resv.held := by
  simp only [State.silence]
  (repeat' split) <;> simp

@[simp] theorem State.dirResolve_keeps (s : State) (cause : CloseCause) :
    (s.dirResolve cause).pending = s.pending ∧ (s.dirResolve cause).pins = s.pins ∧
    (s.dirResolve cause).straps = s.straps ∧ (s.dirResolve cause).line = s.line ∧
    (s.dirResolve cause).memb = s.memb ∧ (s.dirResolve cause).motion = s.motion ∧
    (s.dirResolve cause).fault = s.fault ∧ (s.dirResolve cause).access.phase = s.access.phase ∧
    (s.dirResolve cause).access.busTimer = s.access.busTimer ∧ (s.dirResolve cause).access.base = s.access.base ∧
    (s.dirResolve cause).access.slot = s.access.slot ∧ (s.dirResolve cause).access.inTx = s.access.inTx ∧
    (s.dirResolve cause).access.window = s.access.window ∧
    (s.dirResolve cause).access.ownWindow = s.access.ownWindow ∧ (s.dirResolve cause).port.cfg = s.port.cfg ∧
    (s.dirResolve cause).port.response = s.port.response ∧ (s.dirResolve cause).port.shiftedOut = s.port.shiftedOut ∧
    (s.dirResolve cause).resv.held = s.resv.held := by
  simp only [State.dirResolve]
  (repeat' split) <;> simp

/-! ### Claims -/

@[simp] theorem State.claimFailed_keeps (s : State) (reason : EventReason) (station : Option Addr) (zone : Nat) (watched : List Addr) (side : Side) :
    (s.claimFailed reason station zone watched side).pending = s.pending ∧
    (s.claimFailed reason station zone watched side).pins = s.pins ∧
    (s.claimFailed reason station zone watched side).straps = s.straps ∧
    (s.claimFailed reason station zone watched side).line = s.line ∧
    (s.claimFailed reason station zone watched side).dir = s.dir ∧
    (s.claimFailed reason station zone watched side).memb = s.memb ∧
    (s.claimFailed reason station zone watched side).fault = s.fault ∧
    (s.claimFailed reason station zone watched side).motion.p = s.motion.p ∧
    (s.claimFailed reason station zone watched side).motion.known = s.motion.known ∧
    (s.claimFailed reason station zone watched side).motion.mismatch = s.motion.mismatch ∧
    (s.claimFailed reason station zone watched side).motion.dirUp = s.motion.dirUp ∧
    (s.claimFailed reason station zone watched side).motion.stepHigh = s.motion.stepHigh ∧
    (s.claimFailed reason station zone watched side).motion.pulseTimer = s.motion.pulseTimer ∧
    (s.claimFailed reason station zone watched side).access.phase = s.access.phase ∧
    (s.claimFailed reason station zone watched side).access.busTimer = s.access.busTimer ∧
    (s.claimFailed reason station zone watched side).access.base = s.access.base ∧
    (s.claimFailed reason station zone watched side).access.slot = s.access.slot ∧
    (s.claimFailed reason station zone watched side).access.inTx = s.access.inTx ∧
    (s.claimFailed reason station zone watched side).access.window = s.access.window ∧
    (s.claimFailed reason station zone watched side).access.ownWindow = s.access.ownWindow ∧
    (s.claimFailed reason station zone watched side).port.cfg = s.port.cfg ∧
    (s.claimFailed reason station zone watched side).port.response = s.port.response ∧
    (s.claimFailed reason station zone watched side).port.shiftedOut = s.port.shiftedOut ∧
    (s.claimFailed reason station zone watched side).resv.held = s.resv.held := by
  simp only [State.claimFailed]
  (repeat' split) <;> simp

@[simp] theorem State.attemptFailed_keeps (s : State) (reason : EventReason) (station : Option Addr) (zone : Nat) (watched : List Addr) (side : Side) :
    (s.attemptFailed reason station zone watched side).pending = s.pending ∧
    (s.attemptFailed reason station zone watched side).pins = s.pins ∧
    (s.attemptFailed reason station zone watched side).straps = s.straps ∧
    (s.attemptFailed reason station zone watched side).line = s.line ∧
    (s.attemptFailed reason station zone watched side).dir = s.dir ∧
    (s.attemptFailed reason station zone watched side).memb = s.memb ∧
    (s.attemptFailed reason station zone watched side).fault = s.fault ∧
    (s.attemptFailed reason station zone watched side).motion.p = s.motion.p ∧
    (s.attemptFailed reason station zone watched side).motion.known = s.motion.known ∧
    (s.attemptFailed reason station zone watched side).motion.mismatch = s.motion.mismatch ∧
    (s.attemptFailed reason station zone watched side).motion.dirUp = s.motion.dirUp ∧
    (s.attemptFailed reason station zone watched side).motion.stepHigh = s.motion.stepHigh ∧
    (s.attemptFailed reason station zone watched side).motion.pulseTimer = s.motion.pulseTimer ∧
    (s.attemptFailed reason station zone watched side).access.phase = s.access.phase ∧
    (s.attemptFailed reason station zone watched side).access.busTimer = s.access.busTimer ∧
    (s.attemptFailed reason station zone watched side).access.base = s.access.base ∧
    (s.attemptFailed reason station zone watched side).access.slot = s.access.slot ∧
    (s.attemptFailed reason station zone watched side).access.inTx = s.access.inTx ∧
    (s.attemptFailed reason station zone watched side).access.window = s.access.window ∧
    (s.attemptFailed reason station zone watched side).access.ownWindow = s.access.ownWindow ∧
    (s.attemptFailed reason station zone watched side).port.cfg = s.port.cfg ∧
    (s.attemptFailed reason station zone watched side).port.response = s.port.response ∧
    (s.attemptFailed reason station zone watched side).port.shiftedOut = s.port.shiftedOut ∧
    (s.attemptFailed reason station zone watched side).resv.held = s.resv.held := by
  simp only [State.attemptFailed]
  (repeat' split) <;> simp

@[simp] theorem State.clearAttempts_keeps (s : State) :
    s.clearAttempts.pending = s.pending ∧ s.clearAttempts.pins = s.pins ∧ s.clearAttempts.straps = s.straps ∧
    s.clearAttempts.line = s.line ∧ s.clearAttempts.access = s.access ∧ s.clearAttempts.dir = s.dir ∧
    s.clearAttempts.memb = s.memb ∧ s.clearAttempts.motion = s.motion ∧ s.clearAttempts.port = s.port ∧
    s.clearAttempts.fault = s.fault ∧ s.clearAttempts.resv.held = s.resv.held ∧
    s.clearAttempts.resv.claim = s.resv.claim ∧ s.clearAttempts.resv.tagCounter = s.resv.tagCounter ∧
    s.clearAttempts.resv.rearm = s.resv.rearm := by
  simp only [State.clearAttempts]
  (repeat' split) <;> simp

@[simp] theorem State.clipCandidate_keeps (s : State) (side : Side) (candidate : ZRange) :
    (s.clipCandidate side candidate).1.pending = s.pending ∧
    (s.clipCandidate side candidate).1.pins = s.pins ∧
    (s.clipCandidate side candidate).1.straps = s.straps ∧
    (s.clipCandidate side candidate).1.line = s.line ∧
    (s.clipCandidate side candidate).1.dir = s.dir ∧
    (s.clipCandidate side candidate).1.memb = s.memb ∧
    (s.clipCandidate side candidate).1.fault = s.fault ∧
    (s.clipCandidate side candidate).1.motion.p = s.motion.p ∧
    (s.clipCandidate side candidate).1.motion.known = s.motion.known ∧
    (s.clipCandidate side candidate).1.motion.target = s.motion.target ∧
    (s.clipCandidate side candidate).1.motion.direction = s.motion.direction ∧
    (s.clipCandidate side candidate).1.motion.mismatch = s.motion.mismatch ∧
    (s.clipCandidate side candidate).1.motion.dirUp = s.motion.dirUp ∧
    (s.clipCandidate side candidate).1.motion.stepHigh = s.motion.stepHigh ∧
    (s.clipCandidate side candidate).1.motion.setupTimer = s.motion.setupTimer ∧
    (s.clipCandidate side candidate).1.motion.pulseTimer = s.motion.pulseTimer ∧
    (s.clipCandidate side candidate).1.access.phase = s.access.phase ∧
    (s.clipCandidate side candidate).1.access.busTimer = s.access.busTimer ∧
    (s.clipCandidate side candidate).1.access.base = s.access.base ∧
    (s.clipCandidate side candidate).1.access.slot = s.access.slot ∧
    (s.clipCandidate side candidate).1.access.inTx = s.access.inTx ∧
    (s.clipCandidate side candidate).1.access.window = s.access.window ∧
    (s.clipCandidate side candidate).1.access.ownWindow = s.access.ownWindow ∧
    (s.clipCandidate side candidate).1.port.cfg = s.port.cfg ∧
    (s.clipCandidate side candidate).1.port.response = s.port.response ∧
    (s.clipCandidate side candidate).1.port.shiftedOut = s.port.shiftedOut := by
  simp only [State.clipCandidate]
  (repeat' split) <;> simp

@[simp] theorem State.addRange_keeps (s : State) (r : ClaimRecord) (side : Side) (candidate : ZRange) :
    (s.addRange r side candidate).pending = s.pending ∧ (s.addRange r side candidate).pins = s.pins ∧
    (s.addRange r side candidate).straps = s.straps ∧ (s.addRange r side candidate).line = s.line ∧
    (s.addRange r side candidate).dir = s.dir ∧ (s.addRange r side candidate).memb = s.memb ∧
    (s.addRange r side candidate).fault = s.fault ∧ (s.addRange r side candidate).motion.p = s.motion.p ∧
    (s.addRange r side candidate).motion.known = s.motion.known ∧
    (s.addRange r side candidate).motion.mismatch = s.motion.mismatch ∧
    (s.addRange r side candidate).motion.dirUp = s.motion.dirUp ∧
    (s.addRange r side candidate).motion.stepHigh = s.motion.stepHigh ∧
    (s.addRange r side candidate).motion.pulseTimer = s.motion.pulseTimer ∧
    (s.addRange r side candidate).access.phase = s.access.phase ∧
    (s.addRange r side candidate).access.busTimer = s.access.busTimer ∧
    (s.addRange r side candidate).access.base = s.access.base ∧
    (s.addRange r side candidate).access.slot = s.access.slot ∧
    (s.addRange r side candidate).access.inTx = s.access.inTx ∧
    (s.addRange r side candidate).access.window = s.access.window ∧
    (s.addRange r side candidate).access.ownWindow = s.access.ownWindow ∧
    (s.addRange r side candidate).port.cfg = s.port.cfg ∧
    (s.addRange r side candidate).port.response = s.port.response ∧
    (s.addRange r side candidate).port.shiftedOut = s.port.shiftedOut := by
  simp only [State.addRange]
  (repeat' split) <;> simp

@[simp] theorem State.disclaim_keeps (s : State) (r : ClaimRecord) (side : Side) (reason : EventReason) :
    (s.disclaim r side reason).pending = s.pending ∧ (s.disclaim r side reason).pins = s.pins ∧
    (s.disclaim r side reason).straps = s.straps ∧ (s.disclaim r side reason).line = s.line ∧
    (s.disclaim r side reason).dir = s.dir ∧ (s.disclaim r side reason).memb = s.memb ∧
    (s.disclaim r side reason).fault = s.fault ∧ (s.disclaim r side reason).motion.p = s.motion.p ∧
    (s.disclaim r side reason).motion.known = s.motion.known ∧
    (s.disclaim r side reason).motion.mismatch = s.motion.mismatch ∧
    (s.disclaim r side reason).motion.dirUp = s.motion.dirUp ∧
    (s.disclaim r side reason).motion.stepHigh = s.motion.stepHigh ∧
    (s.disclaim r side reason).motion.pulseTimer = s.motion.pulseTimer ∧
    (s.disclaim r side reason).access.phase = s.access.phase ∧
    (s.disclaim r side reason).access.busTimer = s.access.busTimer ∧
    (s.disclaim r side reason).access.base = s.access.base ∧ (s.disclaim r side reason).access.slot = s.access.slot ∧
    (s.disclaim r side reason).access.inTx = s.access.inTx ∧
    (s.disclaim r side reason).access.window = s.access.window ∧
    (s.disclaim r side reason).access.ownWindow = s.access.ownWindow ∧
    (s.disclaim r side reason).port.cfg = s.port.cfg ∧ (s.disclaim r side reason).port.response = s.port.response ∧
    (s.disclaim r side reason).port.shiftedOut = s.port.shiftedOut := by
  simp only [State.disclaim]
  (repeat' split) <;> simp

@[simp] theorem State.markConcluded_keeps (s : State) (r : ClaimRecord) (outcome : ClaimOutcome) :
    (s.markConcluded r outcome).pending = s.pending ∧ (s.markConcluded r outcome).pins = s.pins ∧
    (s.markConcluded r outcome).straps = s.straps ∧ (s.markConcluded r outcome).line = s.line ∧
    (s.markConcluded r outcome).dir = s.dir ∧ (s.markConcluded r outcome).memb = s.memb ∧
    (s.markConcluded r outcome).motion = s.motion ∧ (s.markConcluded r outcome).port = s.port ∧
    (s.markConcluded r outcome).fault = s.fault ∧ (s.markConcluded r outcome).resv.held = s.resv.held ∧
    (s.markConcluded r outcome).access.phase = s.access.phase ∧
    (s.markConcluded r outcome).access.busTimer = s.access.busTimer ∧
    (s.markConcluded r outcome).access.base = s.access.base ∧
    (s.markConcluded r outcome).access.slot = s.access.slot ∧
    (s.markConcluded r outcome).access.queue = s.access.queue ∧
    (s.markConcluded r outcome).access.inTx = s.access.inTx ∧
    (s.markConcluded r outcome).access.window = s.access.window := by
  simp only [State.markConcluded]
  (repeat' split) <;> simp

@[simp] theorem State.concludeClaim_keeps (s : State) (inconclusive : Bool) :
    (s.concludeClaim inconclusive).pending = s.pending ∧ (s.concludeClaim inconclusive).pins = s.pins ∧
    (s.concludeClaim inconclusive).straps = s.straps ∧ (s.concludeClaim inconclusive).line = s.line ∧
    (s.concludeClaim inconclusive).dir = s.dir ∧ (s.concludeClaim inconclusive).memb = s.memb ∧
    (s.concludeClaim inconclusive).fault = s.fault ∧ (s.concludeClaim inconclusive).motion.p = s.motion.p ∧
    (s.concludeClaim inconclusive).motion.known = s.motion.known ∧
    (s.concludeClaim inconclusive).motion.mismatch = s.motion.mismatch ∧
    (s.concludeClaim inconclusive).motion.dirUp = s.motion.dirUp ∧
    (s.concludeClaim inconclusive).motion.stepHigh = s.motion.stepHigh ∧
    (s.concludeClaim inconclusive).motion.pulseTimer = s.motion.pulseTimer ∧
    (s.concludeClaim inconclusive).port.cfg = s.port.cfg ∧
    (s.concludeClaim inconclusive).port.response = s.port.response ∧
    (s.concludeClaim inconclusive).port.shiftedOut = s.port.shiftedOut ∧
    (s.concludeClaim inconclusive).access.phase = s.access.phase ∧
    (s.concludeClaim inconclusive).access.busTimer = s.access.busTimer ∧
    (s.concludeClaim inconclusive).access.base = s.access.base ∧
    (s.concludeClaim inconclusive).access.slot = s.access.slot ∧
    (s.concludeClaim inconclusive).access.inTx = s.access.inTx ∧
    (s.concludeClaim inconclusive).access.window = s.access.window := by
  simp only [State.concludeClaim]
  (repeat' split) <;> simp

@[simp] theorem State.readNeedSide_keeps (s : State) (side : Side) :
    (s.readNeedSide side).pending = s.pending ∧ (s.readNeedSide side).pins = s.pins ∧
    (s.readNeedSide side).straps = s.straps ∧ (s.readNeedSide side).line = s.line ∧
    (s.readNeedSide side).access = s.access ∧ (s.readNeedSide side).dir = s.dir ∧
    (s.readNeedSide side).memb = s.memb ∧ (s.readNeedSide side).motion = s.motion ∧
    (s.readNeedSide side).port = s.port ∧ (s.readNeedSide side).fault = s.fault ∧
    (s.readNeedSide side).resv.held = s.resv.held ∧ (s.readNeedSide side).resv.claim = s.resv.claim ∧
    (s.readNeedSide side).resv.tagCounter = s.resv.tagCounter ∧ (s.readNeedSide side).resv.rearm = s.resv.rearm := by
  simp only [State.readNeedSide]
  (repeat' split) <;> simp

@[simp] theorem State.dropClaimEntry_keeps (s : State) :
    s.dropClaimEntry.pending = s.pending ∧ s.dropClaimEntry.pins = s.pins ∧ s.dropClaimEntry.straps = s.straps ∧
    s.dropClaimEntry.line = s.line ∧ s.dropClaimEntry.dir = s.dir ∧ s.dropClaimEntry.resv = s.resv ∧
    s.dropClaimEntry.memb = s.memb ∧ s.dropClaimEntry.motion = s.motion ∧ s.dropClaimEntry.port = s.port ∧
    s.dropClaimEntry.fault = s.fault ∧ s.dropClaimEntry.access.phase = s.access.phase ∧
    s.dropClaimEntry.access.busTimer = s.access.busTimer ∧ s.dropClaimEntry.access.base = s.access.base ∧
    s.dropClaimEntry.access.slot = s.access.slot ∧ s.dropClaimEntry.access.inTx = s.access.inTx ∧
    s.dropClaimEntry.access.window = s.access.window ∧ s.dropClaimEntry.access.ownWindow = s.access.ownWindow := by
  simp only [State.dropClaimEntry]
  (repeat' split) <;> simp

@[simp] theorem State.concludeLocally_keeps (s : State) (outcome : ClaimOutcome) :
    (s.concludeLocally outcome).pending = s.pending ∧ (s.concludeLocally outcome).pins = s.pins ∧
    (s.concludeLocally outcome).straps = s.straps ∧ (s.concludeLocally outcome).line = s.line ∧
    (s.concludeLocally outcome).access = s.access ∧ (s.concludeLocally outcome).dir = s.dir ∧
    (s.concludeLocally outcome).memb = s.memb ∧ (s.concludeLocally outcome).motion = s.motion ∧
    (s.concludeLocally outcome).port = s.port ∧ (s.concludeLocally outcome).fault = s.fault ∧
    (s.concludeLocally outcome).resv.held = s.resv.held ∧
    (s.concludeLocally outcome).resv.tagCounter = s.resv.tagCounter ∧
    (s.concludeLocally outcome).resv.attempt = s.resv.attempt ∧
    (s.concludeLocally outcome).resv.attemptSide = s.resv.attemptSide ∧
    (s.concludeLocally outcome).resv.rearm = s.resv.rearm := by
  simp only [State.concludeLocally]
  (repeat' split) <;> simp

@[simp] theorem State.claimNotSent_keeps (s : State) (plan : ClaimPlan) :
    (s.claimNotSent plan).pending = s.pending ∧ (s.claimNotSent plan).pins = s.pins ∧
    (s.claimNotSent plan).straps = s.straps ∧ (s.claimNotSent plan).line = s.line ∧
    (s.claimNotSent plan).dir = s.dir ∧ (s.claimNotSent plan).memb = s.memb ∧ (s.claimNotSent plan).fault = s.fault ∧
    (s.claimNotSent plan).motion.p = s.motion.p ∧ (s.claimNotSent plan).motion.known = s.motion.known ∧
    (s.claimNotSent plan).motion.mismatch = s.motion.mismatch ∧ (s.claimNotSent plan).motion.dirUp = s.motion.dirUp ∧
    (s.claimNotSent plan).motion.stepHigh = s.motion.stepHigh ∧
    (s.claimNotSent plan).motion.pulseTimer = s.motion.pulseTimer ∧
    (s.claimNotSent plan).access.phase = s.access.phase ∧ (s.claimNotSent plan).access.busTimer = s.access.busTimer ∧
    (s.claimNotSent plan).access.base = s.access.base ∧ (s.claimNotSent plan).access.slot = s.access.slot ∧
    (s.claimNotSent plan).access.inTx = s.access.inTx ∧ (s.claimNotSent plan).access.window = s.access.window ∧
    (s.claimNotSent plan).access.ownWindow = s.access.ownWindow ∧ (s.claimNotSent plan).port.cfg = s.port.cfg ∧
    (s.claimNotSent plan).port.response = s.port.response ∧
    (s.claimNotSent plan).port.shiftedOut = s.port.shiftedOut ∧ (s.claimNotSent plan).resv.held = s.resv.held := by
  simp only [State.claimNotSent]
  (repeat' split) <;> simp

@[simp] theorem State.claimSent_keeps (s : State) (side : Side) (range : ZRange) (addressee : Option Addr) :
    (s.claimSent side range addressee).pending = s.pending ∧ (s.claimSent side range addressee).pins = s.pins ∧
    (s.claimSent side range addressee).straps = s.straps ∧ (s.claimSent side range addressee).line = s.line ∧
    (s.claimSent side range addressee).dir = s.dir ∧ (s.claimSent side range addressee).memb = s.memb ∧
    (s.claimSent side range addressee).motion = s.motion ∧ (s.claimSent side range addressee).port = s.port ∧
    (s.claimSent side range addressee).fault = s.fault ∧ (s.claimSent side range addressee).resv.held = s.resv.held ∧
    (s.claimSent side range addressee).resv.attempt = s.resv.attempt ∧
    (s.claimSent side range addressee).resv.attemptSide = s.resv.attemptSide ∧
    (s.claimSent side range addressee).resv.rearm = s.resv.rearm ∧
    (s.claimSent side range addressee).access.phase = s.access.phase ∧
    (s.claimSent side range addressee).access.busTimer = s.access.busTimer ∧
    (s.claimSent side range addressee).access.base = s.access.base ∧
    (s.claimSent side range addressee).access.slot = s.access.slot ∧
    (s.claimSent side range addressee).access.queue = s.access.queue ∧
    (s.claimSent side range addressee).access.inTx = s.access.inTx ∧
    (s.claimSent side range addressee).access.window = s.access.window := by
  simp only [State.claimSent]
  (repeat' split) <;> simp

@[simp] theorem State.claimGrant_keeps (s : State) (sender claimant : Addr) (tag : Tag) (g : ZRange) :
    (s.claimGrant sender claimant tag g).pending = s.pending ∧ (s.claimGrant sender claimant tag g).pins = s.pins ∧
    (s.claimGrant sender claimant tag g).straps = s.straps ∧ (s.claimGrant sender claimant tag g).line = s.line ∧
    (s.claimGrant sender claimant tag g).access = s.access ∧ (s.claimGrant sender claimant tag g).dir = s.dir ∧
    (s.claimGrant sender claimant tag g).memb = s.memb ∧ (s.claimGrant sender claimant tag g).motion = s.motion ∧
    (s.claimGrant sender claimant tag g).port = s.port ∧ (s.claimGrant sender claimant tag g).fault = s.fault ∧
    (s.claimGrant sender claimant tag g).resv.held = s.resv.held := by
  simp only [State.claimGrant]
  (repeat' split) <;> simp

@[simp] theorem State.claimRefuse_keeps (s : State) (sender answered : Addr) (tag : Tag) (reason : RefuseReason) :
    (s.claimRefuse sender answered tag reason).pending = s.pending ∧
    (s.claimRefuse sender answered tag reason).pins = s.pins ∧
    (s.claimRefuse sender answered tag reason).straps = s.straps ∧
    (s.claimRefuse sender answered tag reason).line = s.line ∧
    (s.claimRefuse sender answered tag reason).access = s.access ∧
    (s.claimRefuse sender answered tag reason).dir = s.dir ∧
    (s.claimRefuse sender answered tag reason).memb = s.memb ∧
    (s.claimRefuse sender answered tag reason).motion = s.motion ∧
    (s.claimRefuse sender answered tag reason).port = s.port ∧
    (s.claimRefuse sender answered tag reason).fault = s.fault ∧
    (s.claimRefuse sender answered tag reason).resv.held = s.resv.held := by
  simp only [State.claimRefuse]
  (repeat' split) <;> simp

@[simp] theorem State.answerClaim_keeps (s : State) (x addressee : Addr) (tag : Tag) (side : Side) (unopposed : Bool) (range : ZRange) :
    (s.answerClaim x addressee tag side unopposed range).pending = s.pending ∧
    (s.answerClaim x addressee tag side unopposed range).pins = s.pins ∧
    (s.answerClaim x addressee tag side unopposed range).straps = s.straps ∧
    (s.answerClaim x addressee tag side unopposed range).line = s.line ∧
    (s.answerClaim x addressee tag side unopposed range).dir = s.dir ∧
    (s.answerClaim x addressee tag side unopposed range).resv = s.resv ∧
    (s.answerClaim x addressee tag side unopposed range).memb = s.memb ∧
    (s.answerClaim x addressee tag side unopposed range).motion = s.motion ∧
    (s.answerClaim x addressee tag side unopposed range).port = s.port ∧
    (s.answerClaim x addressee tag side unopposed range).fault = s.fault ∧
    (s.answerClaim x addressee tag side unopposed range).access.phase = s.access.phase ∧
    (s.answerClaim x addressee tag side unopposed range).access.busTimer = s.access.busTimer ∧
    (s.answerClaim x addressee tag side unopposed range).access.base = s.access.base ∧
    (s.answerClaim x addressee tag side unopposed range).access.slot = s.access.slot ∧
    (s.answerClaim x addressee tag side unopposed range).access.inTx = s.access.inTx ∧
    (s.answerClaim x addressee tag side unopposed range).access.window = s.access.window ∧
    (s.answerClaim x addressee tag side unopposed range).access.ownWindow = s.access.ownWindow := by
  simp only [State.answerClaim]
  (repeat' split) <;> simp

/-! ### Members -/

@[simp] theorem State.makePresenceDue_keeps (s : State) :
    s.makePresenceDue.pending = s.pending ∧ s.makePresenceDue.pins = s.pins ∧ s.makePresenceDue.straps = s.straps ∧
    s.makePresenceDue.line = s.line ∧ s.makePresenceDue.dir = s.dir ∧ s.makePresenceDue.resv = s.resv ∧
    s.makePresenceDue.motion = s.motion ∧ s.makePresenceDue.port = s.port ∧ s.makePresenceDue.fault = s.fault ∧
    s.makePresenceDue.access.phase = s.access.phase ∧ s.makePresenceDue.access.busTimer = s.access.busTimer ∧
    s.makePresenceDue.access.base = s.access.base ∧ s.makePresenceDue.access.slot = s.access.slot ∧
    s.makePresenceDue.access.inTx = s.access.inTx ∧ s.makePresenceDue.access.window = s.access.window ∧
    s.makePresenceDue.access.ownWindow = s.access.ownWindow ∧ s.makePresenceDue.memb.state = s.memb.state ∧
    s.makePresenceDue.memb.listenTimer = s.memb.listenTimer ∧ s.makePresenceDue.memb.join = s.memb.join ∧
    s.makePresenceDue.memb.presenceTimer = s.memb.presenceTimer ∧ s.makePresenceDue.memb.evict = s.memb.evict ∧
    s.makePresenceDue.memb.target = s.memb.target := by
  simp only [State.makePresenceDue]
  (repeat' split) <;> simp

@[simp] theorem State.presenceSent_keeps (s : State) :
    s.presenceSent.pending = s.pending ∧ s.presenceSent.pins = s.pins ∧ s.presenceSent.straps = s.straps ∧
    s.presenceSent.line = s.line ∧ s.presenceSent.access = s.access ∧ s.presenceSent.dir = s.dir ∧
    s.presenceSent.resv = s.resv ∧ s.presenceSent.motion = s.motion ∧ s.presenceSent.port = s.port ∧
    s.presenceSent.fault = s.fault ∧ s.presenceSent.memb.state = s.memb.state ∧
    s.presenceSent.memb.listenTimer = s.memb.listenTimer ∧ s.presenceSent.memb.join = s.memb.join ∧
    s.presenceSent.memb.evict = s.memb.evict ∧ s.presenceSent.memb.target = s.memb.target := by
  simp only [State.presenceSent]
  (repeat' split) <;> simp

@[simp] theorem State.beginAttempt_keeps (s : State) (attempt : Nat) :
    (s.beginAttempt attempt).pending = s.pending ∧ (s.beginAttempt attempt).pins = s.pins ∧
    (s.beginAttempt attempt).straps = s.straps ∧ (s.beginAttempt attempt).line = s.line ∧
    (s.beginAttempt attempt).dir = s.dir ∧ (s.beginAttempt attempt).resv = s.resv ∧
    (s.beginAttempt attempt).motion = s.motion ∧ (s.beginAttempt attempt).port = s.port ∧
    (s.beginAttempt attempt).fault = s.fault ∧ (s.beginAttempt attempt).access.phase = s.access.phase ∧
    (s.beginAttempt attempt).access.busTimer = s.access.busTimer ∧
    (s.beginAttempt attempt).access.base = s.access.base ∧ (s.beginAttempt attempt).access.slot = s.access.slot ∧
    (s.beginAttempt attempt).access.inTx = s.access.inTx ∧ (s.beginAttempt attempt).access.window = s.access.window ∧
    (s.beginAttempt attempt).access.ownWindow = s.access.ownWindow ∧
    (s.beginAttempt attempt).memb.state = s.memb.state ∧
    (s.beginAttempt attempt).memb.presenceTimer = s.memb.presenceTimer ∧
    (s.beginAttempt attempt).memb.presenceDue = s.memb.presenceDue ∧
    (s.beginAttempt attempt).memb.evict = s.memb.evict ∧ (s.beginAttempt attempt).memb.target = s.memb.target := by
  simp only [State.beginAttempt]
  (repeat' split) <;> simp

@[simp] theorem State.joinSent_keeps (s : State) :
    s.joinSent.pending = s.pending ∧ s.joinSent.pins = s.pins ∧ s.joinSent.straps = s.straps ∧
    s.joinSent.line = s.line ∧ s.joinSent.dir = s.dir ∧ s.joinSent.resv = s.resv ∧ s.joinSent.motion = s.motion ∧
    s.joinSent.port = s.port ∧ s.joinSent.fault = s.fault ∧ s.joinSent.memb.state = s.memb.state ∧
    s.joinSent.memb.listenTimer = s.memb.listenTimer ∧ s.joinSent.memb.presenceTimer = s.memb.presenceTimer ∧
    s.joinSent.memb.presenceDue = s.memb.presenceDue ∧ s.joinSent.memb.evict = s.memb.evict ∧
    s.joinSent.memb.target = s.memb.target ∧ s.joinSent.access.phase = s.access.phase ∧
    s.joinSent.access.busTimer = s.access.busTimer ∧ s.joinSent.access.base = s.access.base ∧
    s.joinSent.access.slot = s.access.slot ∧ s.joinSent.access.queue = s.access.queue ∧
    s.joinSent.access.inTx = s.access.inTx ∧ s.joinSent.access.window = s.access.window := by
  simp only [State.joinSent]
  (repeat' split) <;> simp

@[simp] theorem State.joinRecall_keeps (s : State) (sender joiner : Addr) (side : Side) (bound : Nat) :
    (s.joinRecall sender joiner side bound).pending = s.pending ∧
    (s.joinRecall sender joiner side bound).pins = s.pins ∧
    (s.joinRecall sender joiner side bound).straps = s.straps ∧
    (s.joinRecall sender joiner side bound).line = s.line ∧
    (s.joinRecall sender joiner side bound).access = s.access ∧ (s.joinRecall sender joiner side bound).dir = s.dir ∧
    (s.joinRecall sender joiner side bound).resv = s.resv ∧
    (s.joinRecall sender joiner side bound).motion = s.motion ∧
    (s.joinRecall sender joiner side bound).port = s.port ∧ (s.joinRecall sender joiner side bound).fault = s.fault ∧
    (s.joinRecall sender joiner side bound).memb.state = s.memb.state ∧
    (s.joinRecall sender joiner side bound).memb.listenTimer = s.memb.listenTimer ∧
    (s.joinRecall sender joiner side bound).memb.presenceTimer = s.memb.presenceTimer ∧
    (s.joinRecall sender joiner side bound).memb.presenceDue = s.memb.presenceDue ∧
    (s.joinRecall sender joiner side bound).memb.evict = s.memb.evict ∧
    (s.joinRecall sender joiner side bound).memb.target = s.memb.target := by
  simp only [State.joinRecall]
  (repeat' split) <;> simp

@[simp] theorem State.joinRefuse_keeps (s : State) (sender answered : Addr) (tag : Tag) (reason : RefuseReason) :
    (s.joinRefuse sender answered tag reason).pending = s.pending ∧
    (s.joinRefuse sender answered tag reason).pins = s.pins ∧
    (s.joinRefuse sender answered tag reason).straps = s.straps ∧
    (s.joinRefuse sender answered tag reason).line = s.line ∧
    (s.joinRefuse sender answered tag reason).access = s.access ∧
    (s.joinRefuse sender answered tag reason).dir = s.dir ∧ (s.joinRefuse sender answered tag reason).resv = s.resv ∧
    (s.joinRefuse sender answered tag reason).motion = s.motion ∧
    (s.joinRefuse sender answered tag reason).port = s.port ∧
    (s.joinRefuse sender answered tag reason).fault = s.fault ∧
    (s.joinRefuse sender answered tag reason).memb.state = s.memb.state ∧
    (s.joinRefuse sender answered tag reason).memb.listenTimer = s.memb.listenTimer ∧
    (s.joinRefuse sender answered tag reason).memb.presenceTimer = s.memb.presenceTimer ∧
    (s.joinRefuse sender answered tag reason).memb.presenceDue = s.memb.presenceDue ∧
    (s.joinRefuse sender answered tag reason).memb.evict = s.memb.evict ∧
    (s.joinRefuse sender answered tag reason).memb.target = s.memb.target := by
  simp only [State.joinRefuse]
  (repeat' split) <;> simp

@[simp] theorem State.joinFailed_keeps (s : State) (reason : EventReason) (station : Option Addr) :
    (s.joinFailed reason station).pending = s.pending ∧ (s.joinFailed reason station).pins = s.pins ∧
    (s.joinFailed reason station).straps = s.straps ∧ (s.joinFailed reason station).line = s.line ∧
    (s.joinFailed reason station).access = s.access ∧ (s.joinFailed reason station).dir = s.dir ∧
    (s.joinFailed reason station).resv = s.resv ∧ (s.joinFailed reason station).motion = s.motion ∧
    (s.joinFailed reason station).fault = s.fault ∧ (s.joinFailed reason station).port.cfg = s.port.cfg ∧
    (s.joinFailed reason station).port.response = s.port.response ∧
    (s.joinFailed reason station).port.shiftedOut = s.port.shiftedOut ∧
    (s.joinFailed reason station).memb.presenceTimer = s.memb.presenceTimer ∧
    (s.joinFailed reason station).memb.presenceDue = s.memb.presenceDue ∧
    (s.joinFailed reason station).memb.evict = s.memb.evict ∧
    (s.joinFailed reason station).memb.target = s.memb.target := by
  simp only [State.joinFailed]
  (repeat' split) <;> simp

@[simp] theorem State.joinRetry_keeps (s : State) (attempt : Nat) (reason : EventReason) (station : Option Addr) :
    (s.joinRetry attempt reason station).pending = s.pending ∧ (s.joinRetry attempt reason station).pins = s.pins ∧
    (s.joinRetry attempt reason station).straps = s.straps ∧ (s.joinRetry attempt reason station).line = s.line ∧
    (s.joinRetry attempt reason station).dir = s.dir ∧ (s.joinRetry attempt reason station).resv = s.resv ∧
    (s.joinRetry attempt reason station).motion = s.motion ∧ (s.joinRetry attempt reason station).fault = s.fault ∧
    (s.joinRetry attempt reason station).port.cfg = s.port.cfg ∧
    (s.joinRetry attempt reason station).port.response = s.port.response ∧
    (s.joinRetry attempt reason station).port.shiftedOut = s.port.shiftedOut ∧
    (s.joinRetry attempt reason station).access.phase = s.access.phase ∧
    (s.joinRetry attempt reason station).access.busTimer = s.access.busTimer ∧
    (s.joinRetry attempt reason station).access.base = s.access.base ∧
    (s.joinRetry attempt reason station).access.slot = s.access.slot ∧
    (s.joinRetry attempt reason station).access.inTx = s.access.inTx ∧
    (s.joinRetry attempt reason station).access.window = s.access.window ∧
    (s.joinRetry attempt reason station).access.ownWindow = s.access.ownWindow ∧
    (s.joinRetry attempt reason station).memb.presenceTimer = s.memb.presenceTimer ∧
    (s.joinRetry attempt reason station).memb.presenceDue = s.memb.presenceDue ∧
    (s.joinRetry attempt reason station).memb.evict = s.memb.evict ∧
    (s.joinRetry attempt reason station).memb.target = s.memb.target := by
  simp only [State.joinRetry]
  (repeat' split) <;> simp

@[simp] theorem State.adopt_keeps (s : State) (r : JoinRecord) :
    (s.adopt r).pending = s.pending ∧ (s.adopt r).pins = s.pins ∧ (s.adopt r).straps = s.straps ∧
    (s.adopt r).line = s.line ∧ (s.adopt r).dir = s.dir ∧ (s.adopt r).fault = s.fault ∧
    (s.adopt r).port.cfg = s.port.cfg ∧ (s.adopt r).port.response = s.port.response ∧
    (s.adopt r).port.shiftedOut = s.port.shiftedOut ∧ (s.adopt r).access.phase = s.access.phase ∧
    (s.adopt r).access.busTimer = s.access.busTimer ∧ (s.adopt r).access.base = s.access.base ∧
    (s.adopt r).access.slot = s.access.slot ∧ (s.adopt r).access.inTx = s.access.inTx ∧
    (s.adopt r).access.window = s.access.window ∧ (s.adopt r).access.ownWindow = s.access.ownWindow ∧
    (s.adopt r).motion.p = s.motion.p ∧ (s.adopt r).motion.known = s.motion.known ∧
    (s.adopt r).motion.target = s.motion.target ∧ (s.adopt r).motion.direction = s.motion.direction ∧
    (s.adopt r).motion.mismatch = s.motion.mismatch ∧ (s.adopt r).motion.dirUp = s.motion.dirUp ∧
    (s.adopt r).motion.stepHigh = s.motion.stepHigh ∧ (s.adopt r).motion.setupTimer = s.motion.setupTimer ∧
    (s.adopt r).motion.pulseTimer = s.motion.pulseTimer ∧ (s.adopt r).memb.evict = s.memb.evict ∧
    (s.adopt r).memb.target = s.memb.target := by
  simp only [State.adopt]
  (repeat' split) <;> simp

@[simp] theorem State.concludeJoin_keeps (s : State) (inconclusive : Bool) :
    (s.concludeJoin inconclusive).pending = s.pending ∧ (s.concludeJoin inconclusive).pins = s.pins ∧
    (s.concludeJoin inconclusive).straps = s.straps ∧ (s.concludeJoin inconclusive).line = s.line ∧
    (s.concludeJoin inconclusive).dir = s.dir ∧ (s.concludeJoin inconclusive).fault = s.fault ∧
    (s.concludeJoin inconclusive).port.cfg = s.port.cfg ∧
    (s.concludeJoin inconclusive).port.response = s.port.response ∧
    (s.concludeJoin inconclusive).port.shiftedOut = s.port.shiftedOut ∧
    (s.concludeJoin inconclusive).motion.p = s.motion.p ∧
    (s.concludeJoin inconclusive).motion.known = s.motion.known ∧
    (s.concludeJoin inconclusive).motion.target = s.motion.target ∧
    (s.concludeJoin inconclusive).motion.direction = s.motion.direction ∧
    (s.concludeJoin inconclusive).motion.mismatch = s.motion.mismatch ∧
    (s.concludeJoin inconclusive).motion.dirUp = s.motion.dirUp ∧
    (s.concludeJoin inconclusive).motion.stepHigh = s.motion.stepHigh ∧
    (s.concludeJoin inconclusive).motion.setupTimer = s.motion.setupTimer ∧
    (s.concludeJoin inconclusive).motion.pulseTimer = s.motion.pulseTimer ∧
    (s.concludeJoin inconclusive).access.phase = s.access.phase ∧
    (s.concludeJoin inconclusive).access.busTimer = s.access.busTimer ∧
    (s.concludeJoin inconclusive).access.base = s.access.base ∧
    (s.concludeJoin inconclusive).access.slot = s.access.slot ∧
    (s.concludeJoin inconclusive).access.inTx = s.access.inTx ∧
    (s.concludeJoin inconclusive).access.window = s.access.window ∧
    (s.concludeJoin inconclusive).memb.evict = s.memb.evict ∧
    (s.concludeJoin inconclusive).memb.target = s.memb.target := by
  simp only [State.concludeJoin]
  (repeat' split) <;> simp

@[simp] theorem State.answerJoin_keeps (s : State) (x : Addr) (j : ZRange) (answered : Bool) :
    (s.answerJoin x j answered).pending = s.pending ∧ (s.answerJoin x j answered).pins = s.pins ∧
    (s.answerJoin x j answered).straps = s.straps ∧ (s.answerJoin x j answered).line = s.line ∧
    (s.answerJoin x j answered).dir = s.dir ∧ (s.answerJoin x j answered).memb = s.memb ∧
    (s.answerJoin x j answered).motion.p = s.motion.p ∧
    (s.answerJoin x j answered).motion.mismatch = s.motion.mismatch ∧
    (s.answerJoin x j answered).motion.dirUp = s.motion.dirUp ∧
    (s.answerJoin x j answered).access.phase = s.access.phase ∧
    (s.answerJoin x j answered).access.busTimer = s.access.busTimer ∧
    (s.answerJoin x j answered).access.base = s.access.base ∧
    (s.answerJoin x j answered).access.slot = s.access.slot ∧
    (s.answerJoin x j answered).access.inTx = s.access.inTx ∧
    (s.answerJoin x j answered).access.window = s.access.window ∧
    (s.answerJoin x j answered).access.ownWindow = s.access.ownWindow ∧
    (s.answerJoin x j answered).port.cfg = s.port.cfg ∧ (s.answerJoin x j answered).port.response = s.port.response ∧
    (s.answerJoin x j answered).port.shiftedOut = s.port.shiftedOut ∧
    (s.answerJoin x j answered).resv.held = s.resv.held ∧ (s.answerJoin x j answered).fault.phase = s.fault.phase ∧
    (s.answerJoin x j answered).fault.resetCause = s.fault.resetCause ∧
    (s.answerJoin x j answered).fault.powerOnTimer = s.fault.powerOnTimer := by
  simp only [State.answerJoin]
  (repeat' split) <;> simp

@[simp] theorem State.targeted_keeps (s : State) (originator : Addr) (answered : Bool) :
    (s.targeted originator answered).pending = s.pending ∧ (s.targeted originator answered).pins = s.pins ∧
    (s.targeted originator answered).straps = s.straps ∧ (s.targeted originator answered).line = s.line ∧
    (s.targeted originator answered).dir = s.dir ∧ (s.targeted originator answered).resv = s.resv ∧
    (s.targeted originator answered).motion = s.motion ∧ (s.targeted originator answered).port = s.port ∧
    (s.targeted originator answered).fault = s.fault ∧
    (s.targeted originator answered).access.phase = s.access.phase ∧
    (s.targeted originator answered).access.busTimer = s.access.busTimer ∧
    (s.targeted originator answered).access.base = s.access.base ∧
    (s.targeted originator answered).access.slot = s.access.slot ∧
    (s.targeted originator answered).access.inTx = s.access.inTx ∧
    (s.targeted originator answered).access.window = s.access.window ∧
    (s.targeted originator answered).access.ownWindow = s.access.ownWindow ∧
    (s.targeted originator answered).memb.state = s.memb.state ∧
    (s.targeted originator answered).memb.listenTimer = s.memb.listenTimer ∧
    (s.targeted originator answered).memb.join = s.memb.join ∧
    (s.targeted originator answered).memb.presenceTimer = s.memb.presenceTimer ∧
    (s.targeted originator answered).memb.presenceDue = s.memb.presenceDue ∧
    (s.targeted originator answered).memb.evict = s.memb.evict := by
  simp only [State.targeted]
  (repeat' split) <;> simp

@[simp] theorem State.evictRefuse_keeps (s : State) (sender answered : Addr) (tag : Tag) (reason : RefuseReason) :
    (s.evictRefuse sender answered tag reason).pending = s.pending ∧
    (s.evictRefuse sender answered tag reason).pins = s.pins ∧
    (s.evictRefuse sender answered tag reason).straps = s.straps ∧
    (s.evictRefuse sender answered tag reason).line = s.line ∧
    (s.evictRefuse sender answered tag reason).access = s.access ∧
    (s.evictRefuse sender answered tag reason).dir = s.dir ∧
    (s.evictRefuse sender answered tag reason).resv = s.resv ∧
    (s.evictRefuse sender answered tag reason).motion = s.motion ∧
    (s.evictRefuse sender answered tag reason).port = s.port ∧
    (s.evictRefuse sender answered tag reason).fault = s.fault ∧
    (s.evictRefuse sender answered tag reason).memb.state = s.memb.state ∧
    (s.evictRefuse sender answered tag reason).memb.listenTimer = s.memb.listenTimer ∧
    (s.evictRefuse sender answered tag reason).memb.join = s.memb.join ∧
    (s.evictRefuse sender answered tag reason).memb.presenceTimer = s.memb.presenceTimer ∧
    (s.evictRefuse sender answered tag reason).memb.presenceDue = s.memb.presenceDue ∧
    (s.evictRefuse sender answered tag reason).memb.target = s.memb.target := by
  simp only [State.evictRefuse]
  (repeat' split) <;> simp

@[simp] theorem State.evictInconclusive_keeps (s : State) :
    s.evictInconclusive.pending = s.pending ∧ s.evictInconclusive.pins = s.pins ∧
    s.evictInconclusive.straps = s.straps ∧ s.evictInconclusive.line = s.line ∧
    s.evictInconclusive.access = s.access ∧ s.evictInconclusive.dir = s.dir ∧ s.evictInconclusive.resv = s.resv ∧
    s.evictInconclusive.motion = s.motion ∧ s.evictInconclusive.fault = s.fault ∧
    s.evictInconclusive.port.cfg = s.port.cfg ∧ s.evictInconclusive.port.response = s.port.response ∧
    s.evictInconclusive.port.shiftedOut = s.port.shiftedOut ∧ s.evictInconclusive.memb.state = s.memb.state ∧
    s.evictInconclusive.memb.listenTimer = s.memb.listenTimer ∧ s.evictInconclusive.memb.join = s.memb.join ∧
    s.evictInconclusive.memb.presenceTimer = s.memb.presenceTimer ∧
    s.evictInconclusive.memb.presenceDue = s.memb.presenceDue ∧ s.evictInconclusive.memb.target = s.memb.target := by
  simp only [State.evictInconclusive]
  (repeat' split) <;> simp

@[simp] theorem State.concludeEvict_keeps (s : State) (cause : CloseCause) :
    (s.concludeEvict cause).pending = s.pending ∧ (s.concludeEvict cause).pins = s.pins ∧
    (s.concludeEvict cause).straps = s.straps ∧ (s.concludeEvict cause).line = s.line ∧
    (s.concludeEvict cause).access = s.access ∧ (s.concludeEvict cause).dir = s.dir ∧
    (s.concludeEvict cause).resv = s.resv ∧ (s.concludeEvict cause).motion = s.motion ∧
    (s.concludeEvict cause).fault = s.fault ∧ (s.concludeEvict cause).port.cfg = s.port.cfg ∧
    (s.concludeEvict cause).port.response = s.port.response ∧
    (s.concludeEvict cause).port.shiftedOut = s.port.shiftedOut ∧ (s.concludeEvict cause).memb.state = s.memb.state ∧
    (s.concludeEvict cause).memb.listenTimer = s.memb.listenTimer ∧ (s.concludeEvict cause).memb.join = s.memb.join ∧
    (s.concludeEvict cause).memb.presenceTimer = s.memb.presenceTimer ∧
    (s.concludeEvict cause).memb.presenceDue = s.memb.presenceDue ∧
    (s.concludeEvict cause).memb.target = s.memb.target := by
  simp only [State.concludeEvict]
  (repeat' split) <;> simp

@[simp] theorem State.becomeEvicted_keeps (s : State) :
    s.becomeEvicted.pending = s.pending ∧ s.becomeEvicted.pins = s.pins ∧ s.becomeEvicted.straps = s.straps ∧
    s.becomeEvicted.dir = s.dir ∧ s.becomeEvicted.port.cfg = s.port.cfg ∧
    s.becomeEvicted.port.response = s.port.response ∧ s.becomeEvicted.port.shiftedOut = s.port.shiftedOut ∧
    s.becomeEvicted.fault.phase = s.fault.phase ∧ s.becomeEvicted.fault.resetCause = s.fault.resetCause ∧
    s.becomeEvicted.fault.powerOnTimer = s.fault.powerOnTimer ∧ s.becomeEvicted.motion.p = s.motion.p ∧
    s.becomeEvicted.motion.mismatch = s.motion.mismatch ∧ s.becomeEvicted.motion.dirUp = s.motion.dirUp ∧
    s.becomeEvicted.line.corrupted = s.line.corrupted ∧ s.becomeEvicted.line.crc = s.line.crc := by
  simp only [State.becomeEvicted]
  (repeat' split) <;> simp

@[simp] theorem State.resolveTarget_keeps (s : State) (cause : CloseCause) :
    (s.resolveTarget cause).pending = s.pending ∧ (s.resolveTarget cause).pins = s.pins ∧
    (s.resolveTarget cause).straps = s.straps ∧ (s.resolveTarget cause).dir = s.dir ∧
    (s.resolveTarget cause).port.cfg = s.port.cfg ∧ (s.resolveTarget cause).port.response = s.port.response ∧
    (s.resolveTarget cause).port.shiftedOut = s.port.shiftedOut ∧
    (s.resolveTarget cause).fault.phase = s.fault.phase ∧
    (s.resolveTarget cause).fault.resetCause = s.fault.resetCause ∧
    (s.resolveTarget cause).fault.powerOnTimer = s.fault.powerOnTimer ∧
    (s.resolveTarget cause).motion.p = s.motion.p ∧ (s.resolveTarget cause).motion.mismatch = s.motion.mismatch ∧
    (s.resolveTarget cause).motion.dirUp = s.motion.dirUp ∧
    (s.resolveTarget cause).line.corrupted = s.line.corrupted ∧ (s.resolveTarget cause).line.crc = s.line.crc := by
  simp only [State.resolveTarget]
  (repeat' split) <;> simp

/-! ### BusAccess -/

@[simp] theorem State.transmit_keeps (s : State) (e : QEntry) (f : Frame) :
    (s.transmit e f).pending = s.pending ∧ (s.transmit e f).pins = s.pins ∧ (s.transmit e f).straps = s.straps ∧
    (s.transmit e f).dir = s.dir ∧ (s.transmit e f).resv = s.resv ∧ (s.transmit e f).memb = s.memb ∧
    (s.transmit e f).motion = s.motion ∧ (s.transmit e f).port = s.port ∧ (s.transmit e f).fault = s.fault ∧
    (s.transmit e f).line.corrupted = s.line.corrupted ∧ (s.transmit e f).access.base = s.access.base ∧
    (s.transmit e f).access.window = s.access.window ∧ (s.transmit e f).access.ownWindow = s.access.ownWindow := by
  simp only [State.transmit]
  (repeat' split) <;> simp

@[simp] theorem State.handOver_keeps (s : State) (e : QEntry) (f : Frame) :
    (s.handOver e f).pending = s.pending ∧ (s.handOver e f).pins = s.pins ∧ (s.handOver e f).straps = s.straps ∧
    (s.handOver e f).dir = s.dir ∧ (s.handOver e f).resv = s.resv ∧ (s.handOver e f).memb = s.memb ∧
    (s.handOver e f).motion = s.motion ∧ (s.handOver e f).port = s.port ∧ (s.handOver e f).fault = s.fault ∧
    (s.handOver e f).line.corrupted = s.line.corrupted ∧ (s.handOver e f).access.base = s.access.base ∧
    (s.handOver e f).access.window = s.access.window ∧ (s.handOver e f).access.ownWindow = s.access.ownWindow := by
  simp only [State.handOver]
  (repeat' split) <;> simp

@[simp] theorem State.handoverLoop_keeps (s : State) (fuel : Nat) :
    (s.handoverLoop fuel).pending = s.pending ∧ (s.handoverLoop fuel).pins = s.pins ∧
    (s.handoverLoop fuel).straps = s.straps ∧ (s.handoverLoop fuel).dir = s.dir ∧
    (s.handoverLoop fuel).fault = s.fault ∧ (s.handoverLoop fuel).motion.p = s.motion.p ∧
    (s.handoverLoop fuel).motion.known = s.motion.known ∧ (s.handoverLoop fuel).motion.mismatch = s.motion.mismatch ∧
    (s.handoverLoop fuel).motion.dirUp = s.motion.dirUp ∧ (s.handoverLoop fuel).motion.stepHigh = s.motion.stepHigh ∧
    (s.handoverLoop fuel).motion.pulseTimer = s.motion.pulseTimer ∧ (s.handoverLoop fuel).port.cfg = s.port.cfg ∧
    (s.handoverLoop fuel).port.response = s.port.response ∧
    (s.handoverLoop fuel).port.shiftedOut = s.port.shiftedOut ∧ (s.handoverLoop fuel).resv.held = s.resv.held ∧
    (s.handoverLoop fuel).line.corrupted = s.line.corrupted ∧ (s.handoverLoop fuel).access.base = s.access.base ∧
    (s.handoverLoop fuel).access.window = s.access.window ∧ (s.handoverLoop fuel).memb.state = s.memb.state ∧
    (s.handoverLoop fuel).memb.listenTimer = s.memb.listenTimer ∧
    (s.handoverLoop fuel).memb.presenceTimer = s.memb.presenceTimer ∧
    (s.handoverLoop fuel).memb.presenceDue = s.memb.presenceDue ∧ (s.handoverLoop fuel).memb.evict = s.memb.evict ∧
    (s.handoverLoop fuel).memb.target = s.memb.target := by
  induction fuel generalizing s with
  | zero => simp [State.handoverLoop]
  | succ n ih =>
    simp only [State.handoverLoop]
    (repeat' split) <;> simp [ih]

@[simp] theorem State.handover_keeps (s : State) :
    s.handover.pending = s.pending ∧ s.handover.pins = s.pins ∧ s.handover.straps = s.straps ∧
    s.handover.dir = s.dir ∧ s.handover.fault = s.fault ∧ s.handover.motion.p = s.motion.p ∧
    s.handover.motion.known = s.motion.known ∧ s.handover.motion.mismatch = s.motion.mismatch ∧
    s.handover.motion.dirUp = s.motion.dirUp ∧ s.handover.motion.stepHigh = s.motion.stepHigh ∧
    s.handover.motion.pulseTimer = s.motion.pulseTimer ∧ s.handover.port.cfg = s.port.cfg ∧
    s.handover.port.response = s.port.response ∧ s.handover.port.shiftedOut = s.port.shiftedOut ∧
    s.handover.resv.held = s.resv.held ∧ s.handover.line.corrupted = s.line.corrupted ∧
    s.handover.access.base = s.access.base ∧ s.handover.access.window = s.access.window ∧
    s.handover.memb.state = s.memb.state ∧ s.handover.memb.listenTimer = s.memb.listenTimer ∧
    s.handover.memb.presenceTimer = s.memb.presenceTimer ∧ s.handover.memb.presenceDue = s.memb.presenceDue ∧
    s.handover.memb.evict = s.memb.evict ∧ s.handover.memb.target = s.memb.target := by
  simp only [State.handover]
  (repeat' split) <;> simp

@[simp] theorem State.kick_keeps (s : State) :
    s.kick.pending = s.pending ∧ s.kick.pins = s.pins ∧ s.kick.straps = s.straps ∧ s.kick.dir = s.dir ∧
    s.kick.fault = s.fault ∧ s.kick.motion.p = s.motion.p ∧ s.kick.motion.known = s.motion.known ∧
    s.kick.motion.mismatch = s.motion.mismatch ∧ s.kick.motion.dirUp = s.motion.dirUp ∧
    s.kick.motion.stepHigh = s.motion.stepHigh ∧ s.kick.motion.pulseTimer = s.motion.pulseTimer ∧
    s.kick.port.cfg = s.port.cfg ∧ s.kick.port.response = s.port.response ∧
    s.kick.port.shiftedOut = s.port.shiftedOut ∧ s.kick.resv.held = s.resv.held ∧
    s.kick.line.corrupted = s.line.corrupted ∧ s.kick.access.base = s.access.base ∧
    s.kick.access.window = s.access.window ∧ s.kick.memb.state = s.memb.state ∧
    s.kick.memb.listenTimer = s.memb.listenTimer ∧ s.kick.memb.presenceTimer = s.memb.presenceTimer ∧
    s.kick.memb.presenceDue = s.memb.presenceDue ∧ s.kick.memb.evict = s.memb.evict ∧
    s.kick.memb.target = s.memb.target := by
  simp only [State.kick]
  (repeat' split) <;> simp

@[simp] theorem State.reportClose_keeps (s : State) (originator : Addr) (kind : WindowKind) (cause : CloseCause) :
    (s.reportClose originator kind cause).pending = s.pending ∧ (s.reportClose originator kind cause).pins = s.pins ∧
    (s.reportClose originator kind cause).straps = s.straps ∧
    (s.reportClose originator kind cause).port.cfg = s.port.cfg ∧
    (s.reportClose originator kind cause).port.response = s.port.response ∧
    (s.reportClose originator kind cause).port.shiftedOut = s.port.shiftedOut ∧
    (s.reportClose originator kind cause).fault.phase = s.fault.phase ∧
    (s.reportClose originator kind cause).fault.resetCause = s.fault.resetCause ∧
    (s.reportClose originator kind cause).fault.powerOnTimer = s.fault.powerOnTimer ∧
    (s.reportClose originator kind cause).line.corrupted = s.line.corrupted := by
  simp only [State.reportClose]
  (repeat' split) <;> simp

@[simp] theorem State.closeWindow_keeps (s : State) (cause : CloseCause) :
    (s.closeWindow cause).pending = s.pending ∧ (s.closeWindow cause).pins = s.pins ∧
    (s.closeWindow cause).straps = s.straps ∧ (s.closeWindow cause).port.cfg = s.port.cfg ∧
    (s.closeWindow cause).port.response = s.port.response ∧
    (s.closeWindow cause).port.shiftedOut = s.port.shiftedOut ∧ (s.closeWindow cause).fault.phase = s.fault.phase ∧
    (s.closeWindow cause).fault.resetCause = s.fault.resetCause ∧
    (s.closeWindow cause).fault.powerOnTimer = s.fault.powerOnTimer ∧
    (s.closeWindow cause).line.corrupted = s.line.corrupted := by
  simp only [State.closeWindow]
  (repeat' split) <;> simp

@[simp] theorem State.openWindow_keeps (s : State) (originator : Addr) (kind : WindowKind) :
    (s.openWindow originator kind).pending = s.pending ∧ (s.openWindow originator kind).pins = s.pins ∧
    (s.openWindow originator kind).straps = s.straps ∧ (s.openWindow originator kind).line = s.line ∧
    (s.openWindow originator kind).dir = s.dir ∧ (s.openWindow originator kind).resv = s.resv ∧
    (s.openWindow originator kind).memb = s.memb ∧ (s.openWindow originator kind).motion = s.motion ∧
    (s.openWindow originator kind).port = s.port ∧ (s.openWindow originator kind).fault = s.fault ∧
    (s.openWindow originator kind).access.phase = s.access.phase ∧
    (s.openWindow originator kind).access.busTimer = s.access.busTimer ∧
    (s.openWindow originator kind).access.base = s.access.base ∧
    (s.openWindow originator kind).access.slot = s.access.slot ∧
    (s.openWindow originator kind).access.queue = s.access.queue ∧
    (s.openWindow originator kind).access.inTx = s.access.inTx ∧
    (s.openWindow originator kind).access.ownWindow = s.access.ownWindow := by
  simp only [State.openWindow]
  (repeat' split) <;> simp

@[simp] theorem State.windowFrame_keeps (s : State) (sender : Addr) (own : Bool) (kind : WindowKind) (tag : Tag) :
    (s.windowFrame sender own kind tag).pending = s.pending ∧ (s.windowFrame sender own kind tag).pins = s.pins ∧
    (s.windowFrame sender own kind tag).straps = s.straps ∧
    (s.windowFrame sender own kind tag).port.cfg = s.port.cfg ∧
    (s.windowFrame sender own kind tag).port.response = s.port.response ∧
    (s.windowFrame sender own kind tag).port.shiftedOut = s.port.shiftedOut ∧
    (s.windowFrame sender own kind tag).fault.phase = s.fault.phase ∧
    (s.windowFrame sender own kind tag).fault.resetCause = s.fault.resetCause ∧
    (s.windowFrame sender own kind tag).fault.powerOnTimer = s.fault.powerOnTimer ∧
    (s.windowFrame sender own kind tag).line.corrupted = s.line.corrupted := by
  simp only [State.windowFrame]
  (repeat' split) <;> simp

@[simp] theorem State.heard_keeps (s : State) (a : Addr) :
    (s.heard a).pending = s.pending ∧ (s.heard a).pins = s.pins ∧ (s.heard a).straps = s.straps ∧
    (s.heard a).port.cfg = s.port.cfg ∧ (s.heard a).port.response = s.port.response ∧
    (s.heard a).port.shiftedOut = s.port.shiftedOut ∧ (s.heard a).fault.phase = s.fault.phase ∧
    (s.heard a).fault.resetCause = s.fault.resetCause ∧ (s.heard a).fault.powerOnTimer = s.fault.powerOnTimer ∧
    (s.heard a).line.corrupted = s.line.corrupted := by
  simp only [State.heard]
  (repeat' split) <;> simp

@[simp] theorem State.txSent_keeps (s : State) (f : Option Frame) :
    (s.txSent f).pending = s.pending ∧ (s.txSent f).pins = s.pins ∧ (s.txSent f).straps = s.straps ∧
    (s.txSent f).line = s.line ∧ (s.txSent f).dir = s.dir ∧ (s.txSent f).resv = s.resv ∧
    (s.txSent f).motion = s.motion ∧ (s.txSent f).port = s.port ∧ (s.txSent f).fault = s.fault ∧
    (s.txSent f).access.phase = s.access.phase ∧ (s.txSent f).access.busTimer = s.access.busTimer ∧
    (s.txSent f).access.base = s.access.base ∧ (s.txSent f).access.slot = s.access.slot ∧
    (s.txSent f).access.queue = s.access.queue ∧ (s.txSent f).access.window = s.access.window ∧
    (s.txSent f).access.ownWindow = s.access.ownWindow ∧ (s.txSent f).memb.state = s.memb.state ∧
    (s.txSent f).memb.join = s.memb.join ∧ (s.txSent f).memb.listenTimer = s.memb.listenTimer := by
  simp only [State.txSent]
  (repeat' split) <;> simp

@[simp] theorem State.txLost_keeps (s : State) :
    s.txLost.pending = s.pending ∧ s.txLost.pins = s.pins ∧ s.txLost.straps = s.straps ∧ s.txLost.line = s.line ∧
    s.txLost.dir = s.dir ∧ s.txLost.fault = s.fault ∧ s.txLost.motion.p = s.motion.p ∧
    s.txLost.motion.known = s.motion.known ∧ s.txLost.motion.mismatch = s.motion.mismatch ∧
    s.txLost.motion.dirUp = s.motion.dirUp ∧ s.txLost.motion.stepHigh = s.motion.stepHigh ∧
    s.txLost.motion.pulseTimer = s.motion.pulseTimer ∧ s.txLost.port.cfg = s.port.cfg ∧
    s.txLost.port.response = s.port.response ∧ s.txLost.port.shiftedOut = s.port.shiftedOut ∧
    s.txLost.access.phase = s.access.phase ∧ s.txLost.access.busTimer = s.access.busTimer ∧
    s.txLost.access.base = s.access.base ∧ s.txLost.access.slot = s.access.slot ∧
    s.txLost.access.window = s.access.window := by
  simp only [State.txLost]
  (repeat' split) <;> simp

@[simp] theorem State.reoffer_keeps (s : State) :
    s.reoffer.pending = s.pending ∧ s.reoffer.pins = s.pins ∧ s.reoffer.straps = s.straps ∧ s.reoffer.line = s.line ∧
    s.reoffer.dir = s.dir ∧ s.reoffer.resv = s.resv ∧ s.reoffer.memb = s.memb ∧ s.reoffer.motion = s.motion ∧
    s.reoffer.port = s.port ∧ s.reoffer.fault = s.fault ∧ s.reoffer.access.phase = s.access.phase ∧
    s.reoffer.access.busTimer = s.access.busTimer ∧ s.reoffer.access.base = s.access.base ∧
    s.reoffer.access.slot = s.access.slot ∧ s.reoffer.access.inTx = s.access.inTx ∧
    s.reoffer.access.window = s.access.window ∧ s.reoffer.access.ownWindow = s.access.ownWindow := by
  simp only [State.reoffer]
  (repeat' split) <;> simp

/-! ### Delivery -/

@[simp] theorem State.startBurst_keeps (s : State) :
    s.startBurst.pending = s.pending ∧ s.startBurst.pins = s.pins ∧ s.startBurst.straps = s.straps ∧
    s.startBurst.dir = s.dir ∧ s.startBurst.resv = s.resv ∧ s.startBurst.memb = s.memb ∧
    s.startBurst.motion = s.motion ∧ s.startBurst.port = s.port ∧ s.startBurst.fault = s.fault ∧
    s.startBurst.line.corrupted = s.line.corrupted ∧ s.startBurst.line.txChars = s.line.txChars ∧
    s.startBurst.access.base = s.access.base ∧ s.startBurst.access.queue = s.access.queue ∧
    s.startBurst.access.inTx = s.access.inTx ∧ s.startBurst.access.window = s.access.window ∧
    s.startBurst.access.ownWindow = s.access.ownWindow := by
  simp only [State.startBurst]
  (repeat' split) <;> simp

@[simp] theorem State.startChar_keeps (s : State) :
    s.startChar.pending = s.pending ∧ s.startChar.pins = s.pins ∧ s.startChar.straps = s.straps ∧
    s.startChar.access = s.access ∧ s.startChar.dir = s.dir ∧ s.startChar.resv = s.resv ∧ s.startChar.memb = s.memb ∧
    s.startChar.motion = s.motion ∧ s.startChar.port = s.port ∧ s.startChar.fault = s.fault ∧
    s.startChar.line.burst = s.line.burst ∧ s.startChar.line.crc = s.line.crc ∧
    s.startChar.line.txChars = s.line.txChars ∧ s.startChar.line.corrupted = s.line.corrupted := by
  simp only [State.startChar]
  (repeat' split) <;> simp

@[simp] theorem State.completeChar_keeps (s : State) (data : Byte) (parity stop : Bool) :
    (s.completeChar data parity stop).pending = s.pending ∧ (s.completeChar data parity stop).pins = s.pins ∧
    (s.completeChar data parity stop).straps = s.straps ∧ (s.completeChar data parity stop).access = s.access ∧
    (s.completeChar data parity stop).dir = s.dir ∧ (s.completeChar data parity stop).resv = s.resv ∧
    (s.completeChar data parity stop).memb = s.memb ∧ (s.completeChar data parity stop).motion = s.motion ∧
    (s.completeChar data parity stop).port = s.port ∧ (s.completeChar data parity stop).fault = s.fault ∧
    (s.completeChar data parity stop).line.corrupted = s.line.corrupted := by
  simp only [State.completeChar]
  (repeat' split) <;> simp

@[simp] theorem State.receiveChar_keeps (s : State) (data : Byte) (parity stop : Bool) :
    (s.receiveChar data parity stop).pending = s.pending ∧ (s.receiveChar data parity stop).pins = s.pins ∧
    (s.receiveChar data parity stop).straps = s.straps ∧ (s.receiveChar data parity stop).port = s.port ∧
    (s.receiveChar data parity stop).line.corrupted = s.line.corrupted ∧
    (s.receiveChar data parity stop).access.base = s.access.base ∧
    (s.receiveChar data parity stop).access.queue = s.access.queue ∧
    (s.receiveChar data parity stop).access.inTx = s.access.inTx ∧
    (s.receiveChar data parity stop).access.window = s.access.window ∧
    (s.receiveChar data parity stop).access.ownWindow = s.access.ownWindow ∧
    (s.receiveChar data parity stop).dir.eviction = s.dir.eviction ∧
    (s.receiveChar data parity stop).resv.held = s.resv.held ∧
    (s.receiveChar data parity stop).resv.claim = s.resv.claim ∧
    (s.receiveChar data parity stop).resv.tagCounter = s.resv.tagCounter ∧
    (s.receiveChar data parity stop).resv.attempt = s.resv.attempt ∧
    (s.receiveChar data parity stop).resv.attemptSide = s.resv.attemptSide ∧
    (s.receiveChar data parity stop).resv.rearm.waiting = s.resv.rearm.waiting ∧
    (s.receiveChar data parity stop).resv.rearm.watched = s.resv.rearm.watched ∧
    (s.receiveChar data parity stop).memb.state = s.memb.state ∧
    (s.receiveChar data parity stop).memb.join = s.memb.join ∧
    (s.receiveChar data parity stop).memb.presenceDue = s.memb.presenceDue ∧
    (s.receiveChar data parity stop).memb.evict = s.memb.evict ∧
    (s.receiveChar data parity stop).memb.target = s.memb.target ∧
    (s.receiveChar data parity stop).motion.state = s.motion.state ∧
    (s.receiveChar data parity stop).motion.p = s.motion.p ∧
    (s.receiveChar data parity stop).motion.known = s.motion.known ∧
    (s.receiveChar data parity stop).motion.target = s.motion.target ∧
    (s.receiveChar data parity stop).motion.direction = s.motion.direction ∧
    (s.receiveChar data parity stop).motion.mismatch = s.motion.mismatch ∧
    (s.receiveChar data parity stop).motion.reloc = s.motion.reloc ∧
    (s.receiveChar data parity stop).motion.need = s.motion.need ∧
    (s.receiveChar data parity stop).motion.lastNeedSide = s.motion.lastNeedSide ∧
    (s.receiveChar data parity stop).motion.dirUp = s.motion.dirUp ∧
    (s.receiveChar data parity stop).motion.stepHigh = s.motion.stepHigh ∧
    (s.receiveChar data parity stop).fault.cause = s.fault.cause ∧
    (s.receiveChar data parity stop).fault.further = s.fault.further ∧
    (s.receiveChar data parity stop).fault.intruders = s.fault.intruders ∧
    (s.receiveChar data parity stop).fault.resetCause = s.fault.resetCause ∧
    (s.receiveChar data parity stop).fault.phase = s.fault.phase := by
  simp only [State.receiveChar]
  (repeat' split) <;> simp

@[simp] theorem State.receiveChars_keeps (s : State) (chars : List Byte) :
    (s.receiveChars chars).pending = s.pending ∧ (s.receiveChars chars).pins = s.pins ∧
    (s.receiveChars chars).straps = s.straps ∧ (s.receiveChars chars).port = s.port ∧
    (s.receiveChars chars).line.corrupted = s.line.corrupted ∧ (s.receiveChars chars).access.base = s.access.base ∧
    (s.receiveChars chars).access.queue = s.access.queue ∧ (s.receiveChars chars).access.inTx = s.access.inTx ∧
    (s.receiveChars chars).access.window = s.access.window ∧
    (s.receiveChars chars).access.ownWindow = s.access.ownWindow ∧
    (s.receiveChars chars).dir.eviction = s.dir.eviction ∧ (s.receiveChars chars).resv.held = s.resv.held ∧
    (s.receiveChars chars).resv.claim = s.resv.claim ∧ (s.receiveChars chars).resv.tagCounter = s.resv.tagCounter ∧
    (s.receiveChars chars).resv.attempt = s.resv.attempt ∧
    (s.receiveChars chars).resv.attemptSide = s.resv.attemptSide ∧
    (s.receiveChars chars).resv.rearm.waiting = s.resv.rearm.waiting ∧
    (s.receiveChars chars).resv.rearm.watched = s.resv.rearm.watched ∧
    (s.receiveChars chars).memb.state = s.memb.state ∧ (s.receiveChars chars).memb.join = s.memb.join ∧
    (s.receiveChars chars).memb.presenceDue = s.memb.presenceDue ∧ (s.receiveChars chars).memb.evict = s.memb.evict ∧
    (s.receiveChars chars).memb.target = s.memb.target ∧ (s.receiveChars chars).motion.state = s.motion.state ∧
    (s.receiveChars chars).motion.p = s.motion.p ∧ (s.receiveChars chars).motion.known = s.motion.known ∧
    (s.receiveChars chars).motion.target = s.motion.target ∧
    (s.receiveChars chars).motion.direction = s.motion.direction ∧
    (s.receiveChars chars).motion.mismatch = s.motion.mismatch ∧
    (s.receiveChars chars).motion.reloc = s.motion.reloc ∧ (s.receiveChars chars).motion.need = s.motion.need ∧
    (s.receiveChars chars).motion.lastNeedSide = s.motion.lastNeedSide ∧
    (s.receiveChars chars).motion.dirUp = s.motion.dirUp ∧
    (s.receiveChars chars).motion.stepHigh = s.motion.stepHigh ∧ (s.receiveChars chars).fault.cause = s.fault.cause ∧
    (s.receiveChars chars).fault.further = s.fault.further ∧
    (s.receiveChars chars).fault.intruders = s.fault.intruders ∧
    (s.receiveChars chars).fault.resetCause = s.fault.resetCause ∧ (s.receiveChars chars).fault.phase = s.fault.phase := by
  simp only [State.receiveChars]
  induction chars generalizing s with
  | nil => simp
  | cons c cs ih =>
    simp only [List.foldl_cons]
    simpa using ih (s.receiveChar c (parityBit c) true)

@[simp] theorem State.endGap_keeps (s : State) :
    s.endGap.pending = s.pending ∧ s.endGap.pins = s.pins ∧ s.endGap.straps = s.straps ∧ s.endGap.port = s.port ∧
    s.endGap.line.corrupted = s.line.corrupted ∧ s.endGap.access.base = s.access.base ∧
    s.endGap.access.queue = s.access.queue ∧ s.endGap.access.inTx = s.access.inTx ∧
    s.endGap.access.window = s.access.window ∧ s.endGap.access.ownWindow = s.access.ownWindow ∧
    s.endGap.dir.eviction = s.dir.eviction ∧ s.endGap.resv.held = s.resv.held ∧ s.endGap.resv.claim = s.resv.claim ∧
    s.endGap.resv.tagCounter = s.resv.tagCounter ∧ s.endGap.resv.attempt = s.resv.attempt ∧
    s.endGap.resv.attemptSide = s.resv.attemptSide ∧ s.endGap.resv.rearm.waiting = s.resv.rearm.waiting ∧
    s.endGap.resv.rearm.watched = s.resv.rearm.watched ∧ s.endGap.memb.state = s.memb.state ∧
    s.endGap.memb.join = s.memb.join ∧ s.endGap.memb.presenceDue = s.memb.presenceDue ∧
    s.endGap.memb.evict = s.memb.evict ∧ s.endGap.memb.target = s.memb.target ∧
    s.endGap.motion.state = s.motion.state ∧ s.endGap.motion.p = s.motion.p ∧
    s.endGap.motion.known = s.motion.known ∧ s.endGap.motion.target = s.motion.target ∧
    s.endGap.motion.direction = s.motion.direction ∧ s.endGap.motion.mismatch = s.motion.mismatch ∧
    s.endGap.motion.reloc = s.motion.reloc ∧ s.endGap.motion.need = s.motion.need ∧
    s.endGap.motion.lastNeedSide = s.motion.lastNeedSide ∧ s.endGap.motion.dirUp = s.motion.dirUp ∧
    s.endGap.motion.stepHigh = s.motion.stepHigh ∧ s.endGap.fault.cause = s.fault.cause ∧
    s.endGap.fault.further = s.fault.further ∧ s.endGap.fault.intruders = s.fault.intruders ∧
    s.endGap.fault.resetCause = s.fault.resetCause ∧ s.endGap.fault.phase = s.fault.phase := by
  simp only [State.endGap]
  (repeat' split) <;> simp

@[simp] theorem State.spoilChar_keeps (s : State) :
    s.spoilChar.pending = s.pending ∧ s.spoilChar.pins = s.pins ∧ s.spoilChar.straps = s.straps ∧
    s.spoilChar.port = s.port ∧ s.spoilChar.line.corrupted = s.line.corrupted ∧
    s.spoilChar.access.base = s.access.base ∧ s.spoilChar.access.queue = s.access.queue ∧
    s.spoilChar.access.inTx = s.access.inTx ∧ s.spoilChar.access.window = s.access.window ∧
    s.spoilChar.access.ownWindow = s.access.ownWindow ∧ s.spoilChar.dir.eviction = s.dir.eviction ∧
    s.spoilChar.resv.held = s.resv.held ∧ s.spoilChar.resv.claim = s.resv.claim ∧
    s.spoilChar.resv.tagCounter = s.resv.tagCounter ∧ s.spoilChar.resv.attempt = s.resv.attempt ∧
    s.spoilChar.resv.attemptSide = s.resv.attemptSide ∧ s.spoilChar.resv.rearm.waiting = s.resv.rearm.waiting ∧
    s.spoilChar.resv.rearm.watched = s.resv.rearm.watched ∧ s.spoilChar.memb.state = s.memb.state ∧
    s.spoilChar.memb.join = s.memb.join ∧ s.spoilChar.memb.presenceDue = s.memb.presenceDue ∧
    s.spoilChar.memb.evict = s.memb.evict ∧ s.spoilChar.memb.target = s.memb.target ∧
    s.spoilChar.motion.state = s.motion.state ∧ s.spoilChar.motion.p = s.motion.p ∧
    s.spoilChar.motion.known = s.motion.known ∧ s.spoilChar.motion.target = s.motion.target ∧
    s.spoilChar.motion.direction = s.motion.direction ∧ s.spoilChar.motion.mismatch = s.motion.mismatch ∧
    s.spoilChar.motion.reloc = s.motion.reloc ∧ s.spoilChar.motion.need = s.motion.need ∧
    s.spoilChar.motion.lastNeedSide = s.motion.lastNeedSide ∧ s.spoilChar.motion.dirUp = s.motion.dirUp ∧
    s.spoilChar.motion.stepHigh = s.motion.stepHigh ∧ s.spoilChar.fault.cause = s.fault.cause ∧
    s.spoilChar.fault.further = s.fault.further ∧ s.spoilChar.fault.intruders = s.fault.intruders ∧
    s.spoilChar.fault.resetCause = s.fault.resetCause ∧ s.spoilChar.fault.phase = s.fault.phase := by
  simp only [State.spoilChar]
  (repeat' split) <;> simp

@[simp] theorem State.takeDelivery_keeps (s : State) (base : Addr) :
    (s.takeDelivery base).pending = s.pending ∧ (s.takeDelivery base).pins = s.pins ∧
    (s.takeDelivery base).straps = s.straps ∧ (s.takeDelivery base).dir = s.dir ∧
    (s.takeDelivery base).resv = s.resv ∧ (s.takeDelivery base).memb = s.memb ∧
    (s.takeDelivery base).motion = s.motion ∧ (s.takeDelivery base).port = s.port ∧
    (s.takeDelivery base).fault = s.fault ∧ (s.takeDelivery base).line.burst = s.line.burst ∧
    (s.takeDelivery base).line.crc = s.line.crc ∧ (s.takeDelivery base).line.corrupted = s.line.corrupted ∧
    (s.takeDelivery base).access.queue = s.access.queue ∧ (s.takeDelivery base).access.inTx = s.access.inTx ∧
    (s.takeDelivery base).access.window = s.access.window ∧
    (s.takeDelivery base).access.ownWindow = s.access.ownWindow := by
  simp only [State.takeDelivery]
  (repeat' split) <;> simp

@[simp] theorem State.unitTake_keeps (s : State) (sender : Addr) (own : Bool) (answered : Bool) (f : Option Frame) :
    (s.unitTake sender own answered f).pending = s.pending ∧ (s.unitTake sender own answered f).pins = s.pins ∧
    (s.unitTake sender own answered f).straps = s.straps ∧ (s.unitTake sender own answered f).line = s.line ∧
    (s.unitTake sender own answered f).dir = s.dir ∧ (s.unitTake sender own answered f).port.cfg = s.port.cfg ∧
    (s.unitTake sender own answered f).port.response = s.port.response ∧
    (s.unitTake sender own answered f).port.shiftedOut = s.port.shiftedOut ∧
    (s.unitTake sender own answered f).fault.phase = s.fault.phase ∧
    (s.unitTake sender own answered f).fault.resetCause = s.fault.resetCause ∧
    (s.unitTake sender own answered f).fault.powerOnTimer = s.fault.powerOnTimer ∧
    (s.unitTake sender own answered f).resv.held = s.resv.held ∧
    (s.unitTake sender own answered f).access.phase = s.access.phase ∧
    (s.unitTake sender own answered f).access.busTimer = s.access.busTimer ∧
    (s.unitTake sender own answered f).access.base = s.access.base ∧
    (s.unitTake sender own answered f).access.slot = s.access.slot ∧
    (s.unitTake sender own answered f).access.inTx = s.access.inTx ∧
    (s.unitTake sender own answered f).access.window = s.access.window ∧
    (s.unitTake sender own answered f).access.ownWindow = s.access.ownWindow ∧
    (s.unitTake sender own answered f).memb.state = s.memb.state := by
  simp only [State.unitTake]
  (repeat' split) <;> simp

@[simp] theorem State.windowTake_keeps (s : State) (sender : Addr) (own : Bool) (f : Option Frame) :
    (s.windowTake sender own f).pending = s.pending ∧ (s.windowTake sender own f).pins = s.pins ∧
    (s.windowTake sender own f).straps = s.straps ∧ (s.windowTake sender own f).port.cfg = s.port.cfg ∧
    (s.windowTake sender own f).port.response = s.port.response ∧
    (s.windowTake sender own f).port.shiftedOut = s.port.shiftedOut ∧
    (s.windowTake sender own f).fault.phase = s.fault.phase ∧
    (s.windowTake sender own f).fault.resetCause = s.fault.resetCause ∧
    (s.windowTake sender own f).fault.powerOnTimer = s.fault.powerOnTimer ∧
    (s.windowTake sender own f).line.corrupted = s.line.corrupted := by
  simp only [State.windowTake]
  (repeat' split) <;> simp

@[simp] theorem State.deliverValid_keeps (s : State) (sender : Addr) (own : Bool) (f : Option Frame) :
    (s.deliverValid sender own f).pending = s.pending ∧ (s.deliverValid sender own f).pins = s.pins ∧
    (s.deliverValid sender own f).straps = s.straps ∧ (s.deliverValid sender own f).port.cfg = s.port.cfg ∧
    (s.deliverValid sender own f).port.response = s.port.response ∧
    (s.deliverValid sender own f).port.shiftedOut = s.port.shiftedOut ∧
    (s.deliverValid sender own f).fault.phase = s.fault.phase ∧
    (s.deliverValid sender own f).fault.resetCause = s.fault.resetCause ∧
    (s.deliverValid sender own f).fault.powerOnTimer = s.fault.powerOnTimer ∧
    (s.deliverValid sender own f).line.corrupted = s.line.corrupted := by
  simp only [State.deliverValid]
  (repeat' split) <;> simp

@[simp] theorem State.deliverCorrupted_keeps (s : State) :
    s.deliverCorrupted.pending = s.pending ∧ s.deliverCorrupted.pins = s.pins ∧
    s.deliverCorrupted.straps = s.straps ∧ s.deliverCorrupted.port.cfg = s.port.cfg ∧
    s.deliverCorrupted.port.response = s.port.response ∧ s.deliverCorrupted.port.shiftedOut = s.port.shiftedOut ∧
    s.deliverCorrupted.fault.phase = s.fault.phase ∧ s.deliverCorrupted.fault.resetCause = s.fault.resetCause ∧
    s.deliverCorrupted.fault.powerOnTimer = s.fault.powerOnTimer := by
  simp only [State.deliverCorrupted]
  (repeat' split) <;> simp

/-! ### Steps -/

@[simp] theorem State.beginPulse_keeps (s : State) :
    s.beginPulse.pending = s.pending ∧ s.beginPulse.pins = s.pins ∧ s.beginPulse.straps = s.straps ∧
    s.beginPulse.line = s.line ∧ s.beginPulse.access = s.access ∧ s.beginPulse.dir = s.dir ∧
    s.beginPulse.resv = s.resv ∧ s.beginPulse.memb = s.memb ∧ s.beginPulse.port = s.port ∧
    s.beginPulse.fault = s.fault ∧ s.beginPulse.motion.state = s.motion.state ∧ s.beginPulse.motion.p = s.motion.p ∧
    s.beginPulse.motion.known = s.motion.known ∧ s.beginPulse.motion.target = s.motion.target ∧
    s.beginPulse.motion.direction = s.motion.direction ∧ s.beginPulse.motion.stepTimer = s.motion.stepTimer ∧
    s.beginPulse.motion.stallTimer = s.motion.stallTimer ∧ s.beginPulse.motion.mismatch = s.motion.mismatch ∧
    s.beginPulse.motion.reloc = s.motion.reloc ∧ s.beginPulse.motion.need = s.motion.need ∧
    s.beginPulse.motion.lastNeedSide = s.motion.lastNeedSide ∧ s.beginPulse.motion.dirUp = s.motion.dirUp := by
  simp only [State.beginPulse]
  (repeat' split) <;> simp

@[simp] theorem State.releaseBehind_keeps (s : State) :
    s.releaseBehind.pending = s.pending ∧ s.releaseBehind.pins = s.pins ∧ s.releaseBehind.straps = s.straps ∧
    s.releaseBehind.line = s.line ∧ s.releaseBehind.dir = s.dir ∧ s.releaseBehind.memb = s.memb ∧
    s.releaseBehind.port = s.port ∧ s.releaseBehind.fault = s.fault ∧ s.releaseBehind.motion.p = s.motion.p ∧
    s.releaseBehind.motion.known = s.motion.known ∧ s.releaseBehind.motion.target = s.motion.target ∧
    s.releaseBehind.motion.direction = s.motion.direction ∧ s.releaseBehind.motion.mismatch = s.motion.mismatch ∧
    s.releaseBehind.motion.dirUp = s.motion.dirUp ∧ s.releaseBehind.motion.stepHigh = s.motion.stepHigh ∧
    s.releaseBehind.motion.setupTimer = s.motion.setupTimer ∧
    s.releaseBehind.motion.pulseTimer = s.motion.pulseTimer ∧ s.releaseBehind.access.phase = s.access.phase ∧
    s.releaseBehind.access.busTimer = s.access.busTimer ∧ s.releaseBehind.access.base = s.access.base ∧
    s.releaseBehind.access.slot = s.access.slot ∧ s.releaseBehind.access.inTx = s.access.inTx ∧
    s.releaseBehind.access.window = s.access.window ∧ s.releaseBehind.access.ownWindow = s.access.ownWindow := by
  simp only [State.releaseBehind]
  (repeat' split) <;> simp

@[simp] theorem State.arriveOrGoOn_keeps (s : State) :
    s.arriveOrGoOn.pending = s.pending ∧ s.arriveOrGoOn.pins = s.pins ∧ s.arriveOrGoOn.straps = s.straps ∧
    s.arriveOrGoOn.line = s.line ∧ s.arriveOrGoOn.dir = s.dir ∧ s.arriveOrGoOn.memb = s.memb ∧
    s.arriveOrGoOn.fault = s.fault ∧ s.arriveOrGoOn.motion.p = s.motion.p ∧
    s.arriveOrGoOn.motion.known = s.motion.known ∧ s.arriveOrGoOn.motion.mismatch = s.motion.mismatch ∧
    s.arriveOrGoOn.motion.dirUp = s.motion.dirUp ∧ s.arriveOrGoOn.motion.stepHigh = s.motion.stepHigh ∧
    s.arriveOrGoOn.motion.pulseTimer = s.motion.pulseTimer ∧ s.arriveOrGoOn.access.phase = s.access.phase ∧
    s.arriveOrGoOn.access.busTimer = s.access.busTimer ∧ s.arriveOrGoOn.access.base = s.access.base ∧
    s.arriveOrGoOn.access.slot = s.access.slot ∧ s.arriveOrGoOn.access.inTx = s.access.inTx ∧
    s.arriveOrGoOn.access.window = s.access.window ∧ s.arriveOrGoOn.access.ownWindow = s.access.ownWindow ∧
    s.arriveOrGoOn.port.cfg = s.port.cfg ∧ s.arriveOrGoOn.port.response = s.port.response ∧
    s.arriveOrGoOn.port.shiftedOut = s.port.shiftedOut := by
  simp only [State.arriveOrGoOn]
  (repeat' split) <;> simp

@[simp] theorem State.takeMoveStep_keeps (s : State) :
    s.takeMoveStep.pending = s.pending ∧ s.takeMoveStep.pins = s.pins ∧ s.takeMoveStep.straps = s.straps ∧
    s.takeMoveStep.line = s.line ∧ s.takeMoveStep.dir = s.dir ∧ s.takeMoveStep.memb = s.memb ∧
    s.takeMoveStep.access.phase = s.access.phase ∧ s.takeMoveStep.access.busTimer = s.access.busTimer ∧
    s.takeMoveStep.access.base = s.access.base ∧ s.takeMoveStep.access.slot = s.access.slot ∧
    s.takeMoveStep.access.inTx = s.access.inTx ∧ s.takeMoveStep.access.window = s.access.window ∧
    s.takeMoveStep.access.ownWindow = s.access.ownWindow ∧ s.takeMoveStep.port.cfg = s.port.cfg ∧
    s.takeMoveStep.port.response = s.port.response ∧ s.takeMoveStep.port.shiftedOut = s.port.shiftedOut ∧
    s.takeMoveStep.fault.phase = s.fault.phase ∧ s.takeMoveStep.fault.resetCause = s.fault.resetCause ∧
    s.takeMoveStep.fault.powerOnTimer = s.fault.powerOnTimer ∧ s.takeMoveStep.motion.dirUp = s.motion.dirUp := by
  simp only [State.takeMoveStep]
  (repeat' split) <;> simp

@[simp] theorem State.enterStalled_keeps (s : State) :
    s.enterStalled.pending = s.pending ∧ s.enterStalled.pins = s.pins ∧ s.enterStalled.straps = s.straps ∧
    s.enterStalled.line = s.line ∧ s.enterStalled.access = s.access ∧ s.enterStalled.dir = s.dir ∧
    s.enterStalled.resv = s.resv ∧ s.enterStalled.memb = s.memb ∧ s.enterStalled.port = s.port ∧
    s.enterStalled.fault = s.fault ∧ s.enterStalled.motion.p = s.motion.p ∧
    s.enterStalled.motion.known = s.motion.known ∧ s.enterStalled.motion.target = s.motion.target ∧
    s.enterStalled.motion.direction = s.motion.direction ∧ s.enterStalled.motion.mismatch = s.motion.mismatch ∧
    s.enterStalled.motion.reloc = s.motion.reloc ∧ s.enterStalled.motion.need = s.motion.need ∧
    s.enterStalled.motion.lastNeedSide = s.motion.lastNeedSide ∧ s.enterStalled.motion.dirUp = s.motion.dirUp ∧
    s.enterStalled.motion.stepHigh = s.motion.stepHigh ∧ s.enterStalled.motion.setupTimer = s.motion.setupTimer ∧
    s.enterStalled.motion.pulseTimer = s.motion.pulseTimer := by
  simp only [State.enterStalled]
  (repeat' split) <;> simp

@[simp] theorem State.relocateDone_keeps (s : State) (p : Nat) :
    (s.relocateDone p).pending = s.pending ∧ (s.relocateDone p).pins = s.pins ∧
    (s.relocateDone p).straps = s.straps ∧ (s.relocateDone p).line = s.line ∧ (s.relocateDone p).dir = s.dir ∧
    (s.relocateDone p).memb = s.memb ∧ (s.relocateDone p).fault = s.fault ∧
    (s.relocateDone p).access.phase = s.access.phase ∧ (s.relocateDone p).access.busTimer = s.access.busTimer ∧
    (s.relocateDone p).access.base = s.access.base ∧ (s.relocateDone p).access.slot = s.access.slot ∧
    (s.relocateDone p).access.inTx = s.access.inTx ∧ (s.relocateDone p).access.window = s.access.window ∧
    (s.relocateDone p).access.ownWindow = s.access.ownWindow ∧ (s.relocateDone p).port.cfg = s.port.cfg ∧
    (s.relocateDone p).port.response = s.port.response ∧ (s.relocateDone p).port.shiftedOut = s.port.shiftedOut ∧
    (s.relocateDone p).motion.dirUp = s.motion.dirUp ∧ (s.relocateDone p).motion.stepHigh = s.motion.stepHigh ∧
    (s.relocateDone p).motion.pulseTimer = s.motion.pulseTimer := by
  simp only [State.relocateDone]
  (repeat' split) <;> simp

@[simp] theorem State.takeRelocStep_keeps (s : State) :
    s.takeRelocStep.pending = s.pending ∧ s.takeRelocStep.pins = s.pins ∧ s.takeRelocStep.straps = s.straps ∧
    s.takeRelocStep.line = s.line ∧ s.takeRelocStep.dir = s.dir ∧ s.takeRelocStep.memb = s.memb ∧
    s.takeRelocStep.access.phase = s.access.phase ∧ s.takeRelocStep.access.busTimer = s.access.busTimer ∧
    s.takeRelocStep.access.base = s.access.base ∧ s.takeRelocStep.access.slot = s.access.slot ∧
    s.takeRelocStep.access.inTx = s.access.inTx ∧ s.takeRelocStep.access.window = s.access.window ∧
    s.takeRelocStep.access.ownWindow = s.access.ownWindow ∧ s.takeRelocStep.port.cfg = s.port.cfg ∧
    s.takeRelocStep.port.response = s.port.response ∧ s.takeRelocStep.port.shiftedOut = s.port.shiftedOut ∧
    s.takeRelocStep.fault.phase = s.fault.phase ∧ s.takeRelocStep.fault.resetCause = s.fault.resetCause ∧
    s.takeRelocStep.fault.powerOnTimer = s.fault.powerOnTimer ∧ s.takeRelocStep.motion.dirUp = s.motion.dirUp := by
  simp only [State.takeRelocStep]
  (repeat' split) <;> simp

end Sys2Proof.Machine
end

