-- ==== Sys2Proof/Laws/EventQueue.lean ====
section
/-! SUPPORT. The event queue keeps its limits through every shared operation. -/

namespace Sys2Proof.Machine

set_option linter.unusedTactic false
set_option linter.unreachableTactic false
set_option linter.unusedVariables false
set_option linter.unnecessarySeqFocus false
set_option linter.unusedSimpArgs false

/-! ### The event queue (R161) -/

theorem placeEvent_limits (q : List Event) (e : Event) (h : EventLimits q) : EventLimits (placeEvent q e) := by
  obtain ⟨hs, hn⟩ := h
  unfold placeEvent eventQueueSize
  (repeat' split) <;> constructor <;> simp_all <;> omega

theorem tail_limits (q : List Event) (h : EventLimits q) : EventLimits q.tail := by
  obtain ⟨hs, hn⟩ := h
  constructor <;> simp <;> omega

theorem State.queueEvent_eventLimits (s : State) (e : Event)
    (hq : EventLimits s.port.events) : EventLimits (s.queueEvent e).port.events := by
  simp only [State.queueEvent]
  (repeat' split) <;> first | (simp (maxDischargeDepth := 8) [hq, placeEvent_limits]; done) | (simp_all (maxDischargeDepth := 8) [placeEvent_limits]; done)

theorem State.endMove_eventLimits (s : State) (reason : EndReason)
    (hq : EventLimits s.port.events) : EventLimits (s.endMove reason).port.events := by
  simp only [State.endMove]
  (repeat' split) <;> first | (simp (maxDischargeDepth := 8) [hq, State.queueEvent_eventLimits]; done) | (simp_all (maxDischargeDepth := 8) [State.queueEvent_eventLimits]; done)

theorem State.endRelocate_eventLimits (s : State) (reason : EndReason) (after : MotionState)
    (hq : EventLimits s.port.events) : EventLimits (s.endRelocate reason after).port.events := by
  simp only [State.endRelocate]
  (repeat' split) <;> first | (simp (maxDischargeDepth := 8) [hq, State.queueEvent_eventLimits]; done) | (simp_all (maxDischargeDepth := 8) [State.queueEvent_eventLimits]; done)

theorem State.relocateUp_eventLimits (s : State) (r : RelocRecord)
    (hq : EventLimits s.port.events) : EventLimits (s.relocateUp r).port.events := by
  simp only [State.relocateUp]
  (repeat' split) <;> first | (simp (maxDischargeDepth := 8) [hq, State.endRelocate_eventLimits]; done) | (simp_all (maxDischargeDepth := 8) [State.endRelocate_eventLimits]; done)

theorem State.chooseDirection_eventLimits (s : State) (r : RelocRecord)
    (hq : EventLimits s.port.events) : EventLimits (s.chooseDirection r).port.events := by
  simp only [State.chooseDirection]
  (repeat' split) <;> first | (simp (maxDischargeDepth := 8) [hq, State.endRelocate_eventLimits, State.relocateUp_eventLimits]; done) | (simp_all (maxDischargeDepth := 8) [State.endRelocate_eventLimits, State.relocateUp_eventLimits]; done)

theorem State.onClaimFailed_eventLimits (s : State) (side : Side)
    (hq : EventLimits s.port.events) : EventLimits (s.onClaimFailed side).port.events := by
  simp only [State.onClaimFailed]
  (repeat' split) <;> first | (simp (maxDischargeDepth := 8) [hq, State.endRelocate_eventLimits, State.relocateUp_eventLimits]; done) | (simp_all (maxDischargeDepth := 8) [State.endRelocate_eventLimits, State.relocateUp_eventLimits]; done)

theorem State.forceHalt_eventLimits (s : State) (cause : FaultCause)
    (hq : EventLimits s.port.events) : EventLimits (s.forceHalt cause).port.events := by
  simp only [State.forceHalt]
  (repeat' split) <;> first | (simp (maxDischargeDepth := 8) [hq, State.endMove_eventLimits, State.endRelocate_eventLimits]; done) | (simp_all (maxDischargeDepth := 8) [State.endMove_eventLimits, State.endRelocate_eventLimits]; done)

theorem State.reportFault_eventLimits (s : State) (r : FaultReport)
    (hq : EventLimits s.port.events) : EventLimits (s.reportFault r).port.events := by
  simp only [State.reportFault]
  (repeat' split) <;> first | (simp (maxDischargeDepth := 8) [hq, State.queueEvent_eventLimits, State.forceHalt_eventLimits]; done) | (simp_all (maxDischargeDepth := 8) [State.queueEvent_eventLimits, State.forceHalt_eventLimits]; done)

theorem State.presentEvent_eventLimits (s : State) (a : Addr) (old : PeerState)
    (hq : EventLimits s.port.events) : EventLimits (s.presentEvent a old).port.events := by
  simp only [State.presentEvent]
  (repeat' split) <;> first | (simp (maxDischargeDepth := 8) [hq, State.queueEvent_eventLimits]; done) | (simp_all (maxDischargeDepth := 8) [State.queueEvent_eventLimits]; done)

theorem State.dirPresence_eventLimits (s : State) (x : Addr) (held occupied : ZRange) (mode : MotionState)
    (hq : EventLimits s.port.events) : EventLimits (s.dirPresence x held occupied mode).port.events := by
  simp only [State.dirPresence]
  (repeat' split) <;> first | (simp (maxDischargeDepth := 8) [hq, State.queueEvent_eventLimits, State.reportFault_eventLimits, State.presentEvent_eventLimits]; done) | (simp_all (maxDischargeDepth := 8) [State.queueEvent_eventLimits, State.reportFault_eventLimits, State.presentEvent_eventLimits]; done)

theorem State.dirGrant_eventLimits (s : State) (x : Addr) (g : ZRange)
    (hq : EventLimits s.port.events) : EventLimits (s.dirGrant x g).port.events := by
  simp only [State.dirGrant]
  (repeat' split) <;> first | (simp (maxDischargeDepth := 8) [hq, State.presentEvent_eventLimits]; done) | (simp_all (maxDischargeDepth := 8) [State.presentEvent_eventLimits]; done)

theorem State.dirTake_eventLimits (s : State) (sender : Addr) (f : Option Frame)
    (hq : EventLimits s.port.events) : EventLimits (s.dirTake sender f).port.events := by
  simp only [State.dirTake]
  (repeat' split) <;> first | (simp (maxDischargeDepth := 8) [hq, State.dirPresence_eventLimits, State.dirGrant_eventLimits]; done) | (simp_all (maxDischargeDepth := 8) [State.dirPresence_eventLimits, State.dirGrant_eventLimits]; done)

theorem State.silence_eventLimits (s : State) (a : Addr)
    (hq : EventLimits s.port.events) : EventLimits (s.silence a).port.events := by
  simp only [State.silence]
  (repeat' split) <;> first | (simp (maxDischargeDepth := 8) [hq, State.queueEvent_eventLimits]; done) | (simp_all (maxDischargeDepth := 8) [State.queueEvent_eventLimits]; done)

theorem State.dirResolve_eventLimits (s : State) (cause : CloseCause)
    (hq : EventLimits s.port.events) : EventLimits (s.dirResolve cause).port.events := by
  simp only [State.dirResolve]
  (repeat' split) <;> first | (simp (maxDischargeDepth := 8) [hq, State.queueEvent_eventLimits]; done) | (simp_all (maxDischargeDepth := 8) [State.queueEvent_eventLimits]; done)

theorem State.claimFailed_eventLimits (s : State) (reason : EventReason) (station : Option Addr) (zone : Nat) (watched : List Addr) (side : Side)
    (hq : EventLimits s.port.events) : EventLimits (s.claimFailed reason station zone watched side).port.events := by
  simp only [State.claimFailed]
  (repeat' split) <;> first | (simp (maxDischargeDepth := 8) [hq, State.queueEvent_eventLimits, State.onClaimFailed_eventLimits]; done) | (simp_all (maxDischargeDepth := 8) [State.queueEvent_eventLimits, State.onClaimFailed_eventLimits]; done)

theorem State.attemptFailed_eventLimits (s : State) (reason : EventReason) (station : Option Addr) (zone : Nat) (watched : List Addr) (side : Side)
    (hq : EventLimits s.port.events) : EventLimits (s.attemptFailed reason station zone watched side).port.events := by
  simp only [State.attemptFailed]
  (repeat' split) <;> first | (simp (maxDischargeDepth := 8) [hq, State.claimFailed_eventLimits]; done) | (simp_all (maxDischargeDepth := 8) [State.claimFailed_eventLimits]; done)

theorem State.clipCandidate_eventLimits (s : State) (side : Side) (candidate : ZRange)
    (hq : EventLimits s.port.events) : EventLimits (s.clipCandidate side candidate).1.port.events := by
  simp only [State.clipCandidate]
  (repeat' split) <;> first | (simp (maxDischargeDepth := 8) [hq, State.queueEvent_eventLimits]; done) | (simp_all (maxDischargeDepth := 8) [State.queueEvent_eventLimits]; done)

theorem State.addRange_eventLimits (s : State) (r : ClaimRecord) (side : Side) (candidate : ZRange)
    (hq : EventLimits s.port.events) : EventLimits (s.addRange r side candidate).port.events := by
  simp only [State.addRange]
  (repeat' split) <;> first | (simp (maxDischargeDepth := 8) [hq, State.attemptFailed_eventLimits, State.clipCandidate_eventLimits]; done) | (simp_all (maxDischargeDepth := 8) [State.attemptFailed_eventLimits, State.clipCandidate_eventLimits]; done)

theorem State.disclaim_eventLimits (s : State) (r : ClaimRecord) (side : Side) (reason : EventReason)
    (hq : EventLimits s.port.events) : EventLimits (s.disclaim r side reason).port.events := by
  simp only [State.disclaim]
  (repeat' split) <;> first | (simp (maxDischargeDepth := 8) [hq, State.attemptFailed_eventLimits]; done) | (simp_all (maxDischargeDepth := 8) [State.attemptFailed_eventLimits]; done)

theorem State.concludeClaim_eventLimits (s : State) (inconclusive : Bool)
    (hq : EventLimits s.port.events) : EventLimits (s.concludeClaim inconclusive).port.events := by
  simp only [State.concludeClaim]
  (repeat' split) <;> first | (simp (maxDischargeDepth := 8) [hq, State.addRange_eventLimits, State.disclaim_eventLimits]; done) | (simp_all (maxDischargeDepth := 8) [State.addRange_eventLimits, State.disclaim_eventLimits]; done)

theorem State.claimNotSent_eventLimits (s : State) (plan : ClaimPlan)
    (hq : EventLimits s.port.events) : EventLimits (s.claimNotSent plan).port.events := by
  simp only [State.claimNotSent]
  (repeat' split) <;> first | (simp (maxDischargeDepth := 8) [hq, State.claimFailed_eventLimits, State.attemptFailed_eventLimits]; done) | (simp_all (maxDischargeDepth := 8) [State.claimFailed_eventLimits, State.attemptFailed_eventLimits]; done)

theorem State.joinFailed_eventLimits (s : State) (reason : EventReason) (station : Option Addr)
    (hq : EventLimits s.port.events) : EventLimits (s.joinFailed reason station).port.events := by
  simp only [State.joinFailed]
  (repeat' split) <;> first | (simp (maxDischargeDepth := 8) [hq, State.queueEvent_eventLimits]; done) | (simp_all (maxDischargeDepth := 8) [State.queueEvent_eventLimits]; done)

theorem State.joinRetry_eventLimits (s : State) (attempt : Nat) (reason : EventReason) (station : Option Addr)
    (hq : EventLimits s.port.events) : EventLimits (s.joinRetry attempt reason station).port.events := by
  simp only [State.joinRetry]
  (repeat' split) <;> first | (simp (maxDischargeDepth := 8) [hq, State.joinFailed_eventLimits]; done) | (simp_all (maxDischargeDepth := 8) [State.joinFailed_eventLimits]; done)

theorem State.adopt_eventLimits (s : State) (r : JoinRecord)
    (hq : EventLimits s.port.events) : EventLimits (s.adopt r).port.events := by
  simp only [State.adopt]
  (repeat' split) <;> first | (simp (maxDischargeDepth := 8) [hq, State.queueEvent_eventLimits, State.joinFailed_eventLimits]; done) | (simp_all (maxDischargeDepth := 8) [State.queueEvent_eventLimits, State.joinFailed_eventLimits]; done)

theorem State.concludeJoin_eventLimits (s : State) (inconclusive : Bool)
    (hq : EventLimits s.port.events) : EventLimits (s.concludeJoin inconclusive).port.events := by
  simp only [State.concludeJoin]
  (repeat' split) <;> first | (simp (maxDischargeDepth := 8) [hq, State.joinFailed_eventLimits, State.joinRetry_eventLimits, State.adopt_eventLimits]; done) | (simp_all (maxDischargeDepth := 8) [State.joinFailed_eventLimits, State.joinRetry_eventLimits, State.adopt_eventLimits]; done)

theorem State.answerJoin_eventLimits (s : State) (x : Addr) (j : ZRange) (answered : Bool)
    (hq : EventLimits s.port.events) : EventLimits (s.answerJoin x j answered).port.events := by
  simp only [State.answerJoin]
  (repeat' split) <;> first | (simp (maxDischargeDepth := 8) [hq, State.reportFault_eventLimits]; done) | (simp_all (maxDischargeDepth := 8) [State.reportFault_eventLimits]; done)

theorem State.evictInconclusive_eventLimits (s : State)
    (hq : EventLimits s.port.events) : EventLimits s.evictInconclusive.port.events := by
  simp only [State.evictInconclusive]
  (repeat' split) <;> first | (simp (maxDischargeDepth := 8) [hq, State.queueEvent_eventLimits]; done) | (simp_all (maxDischargeDepth := 8) [State.queueEvent_eventLimits]; done)

theorem State.concludeEvict_eventLimits (s : State) (cause : CloseCause)
    (hq : EventLimits s.port.events) : EventLimits (s.concludeEvict cause).port.events := by
  simp only [State.concludeEvict]
  (repeat' split) <;> first | (simp (maxDischargeDepth := 8) [hq, State.queueEvent_eventLimits, State.evictInconclusive_eventLimits]; done) | (simp_all (maxDischargeDepth := 8) [State.queueEvent_eventLimits, State.evictInconclusive_eventLimits]; done)

theorem State.becomeEvicted_eventLimits (s : State)
    (hq : EventLimits s.port.events) : EventLimits s.becomeEvicted.port.events := by
  simp only [State.becomeEvicted]
  (repeat' split) <;> first | (simp (maxDischargeDepth := 8) [hq, State.reportFault_eventLimits]; done) | (simp_all (maxDischargeDepth := 8) [State.reportFault_eventLimits]; done)

theorem State.resolveTarget_eventLimits (s : State) (cause : CloseCause)
    (hq : EventLimits s.port.events) : EventLimits (s.resolveTarget cause).port.events := by
  simp only [State.resolveTarget]
  (repeat' split) <;> first | (simp (maxDischargeDepth := 8) [hq, State.becomeEvicted_eventLimits]; done) | (simp_all (maxDischargeDepth := 8) [State.becomeEvicted_eventLimits]; done)

theorem State.handoverLoop_eventLimits (s : State) (fuel : Nat)
    (hq : EventLimits s.port.events) : EventLimits (s.handoverLoop fuel).port.events := by
  induction fuel generalizing s with
  | zero => simpa [State.handoverLoop] using hq
  | succ n ih =>
    simp only [State.handoverLoop]
    (repeat' split) <;> simp (maxDischargeDepth := 8) [ih, hq, State.claimNotSent_eventLimits]

theorem State.handover_eventLimits (s : State)
    (hq : EventLimits s.port.events) : EventLimits s.handover.port.events := by
  simp only [State.handover]
  (repeat' split) <;> first | (simp (maxDischargeDepth := 8) [hq, State.handoverLoop_eventLimits]; done) | (simp_all (maxDischargeDepth := 8) [State.handoverLoop_eventLimits]; done)

theorem State.kick_eventLimits (s : State)
    (hq : EventLimits s.port.events) : EventLimits s.kick.port.events := by
  simp only [State.kick]
  (repeat' split) <;> first | (simp (maxDischargeDepth := 8) [hq, State.handover_eventLimits]; done) | (simp_all (maxDischargeDepth := 8) [State.handover_eventLimits]; done)

theorem State.reportClose_eventLimits (s : State) (originator : Addr) (kind : WindowKind) (cause : CloseCause)
    (hq : EventLimits s.port.events) : EventLimits (s.reportClose originator kind cause).port.events := by
  simp only [State.reportClose]
  (repeat' split) <;> first | (simp (maxDischargeDepth := 8) [hq, State.dirResolve_eventLimits, State.concludeClaim_eventLimits, State.concludeJoin_eventLimits, State.concludeEvict_eventLimits, State.resolveTarget_eventLimits]; done) | (simp_all (maxDischargeDepth := 8) [State.dirResolve_eventLimits, State.concludeClaim_eventLimits, State.concludeJoin_eventLimits, State.concludeEvict_eventLimits, State.resolveTarget_eventLimits]; done)

theorem State.closeWindow_eventLimits (s : State) (cause : CloseCause)
    (hq : EventLimits s.port.events) : EventLimits (s.closeWindow cause).port.events := by
  simp only [State.closeWindow]
  (repeat' split) <;> first | (simp (maxDischargeDepth := 8) [hq, State.reportClose_eventLimits]; done) | (simp_all (maxDischargeDepth := 8) [State.reportClose_eventLimits]; done)

theorem State.windowFrame_eventLimits (s : State) (sender : Addr) (own : Bool) (kind : WindowKind) (tag : Tag)
    (hq : EventLimits s.port.events) : EventLimits (s.windowFrame sender own kind tag).port.events := by
  simp only [State.windowFrame]
  (repeat' split) <;> first | (simp (maxDischargeDepth := 8) [hq, State.closeWindow_eventLimits]; done) | (simp_all (maxDischargeDepth := 8) [State.closeWindow_eventLimits]; done)

theorem State.heard_eventLimits (s : State) (a : Addr)
    (hq : EventLimits s.port.events) : EventLimits (s.heard a).port.events := by
  simp only [State.heard]
  (repeat' split) <;> first | (simp (maxDischargeDepth := 8) [hq, State.closeWindow_eventLimits]; done) | (simp_all (maxDischargeDepth := 8) [State.closeWindow_eventLimits]; done)

theorem State.txLost_eventLimits (s : State)
    (hq : EventLimits s.port.events) : EventLimits s.txLost.port.events := by
  simp only [State.txLost]
  (repeat' split) <;> first | (simp (maxDischargeDepth := 8) [hq, State.concludeClaim_eventLimits, State.concludeJoin_eventLimits, State.evictInconclusive_eventLimits]; done) | (simp_all (maxDischargeDepth := 8) [State.concludeClaim_eventLimits, State.concludeJoin_eventLimits, State.evictInconclusive_eventLimits]; done)

theorem State.unitTake_eventLimits (s : State) (sender : Addr) (own : Bool) (answered : Bool) (f : Option Frame)
    (hq : EventLimits s.port.events) : EventLimits (s.unitTake sender own answered f).port.events := by
  simp only [State.unitTake]
  (repeat' split) <;> first | (simp (maxDischargeDepth := 8) [hq, State.answerJoin_eventLimits]; done) | (simp_all (maxDischargeDepth := 8) [State.answerJoin_eventLimits]; done)

theorem State.windowTake_eventLimits (s : State) (sender : Addr) (own : Bool) (f : Option Frame)
    (hq : EventLimits s.port.events) : EventLimits (s.windowTake sender own f).port.events := by
  simp only [State.windowTake]
  (repeat' split) <;> first | (simp (maxDischargeDepth := 8) [hq, State.windowFrame_eventLimits]; done) | (simp_all (maxDischargeDepth := 8) [State.windowFrame_eventLimits]; done)

theorem State.deliverValid_eventLimits (s : State) (sender : Addr) (own : Bool) (f : Option Frame)
    (hq : EventLimits s.port.events) : EventLimits (s.deliverValid sender own f).port.events := by
  simp only [State.deliverValid]
  (repeat' split) <;> first | (simp (maxDischargeDepth := 8) [hq, State.dirTake_eventLimits, State.heard_eventLimits, State.unitTake_eventLimits, State.windowTake_eventLimits]; done) | (simp_all (maxDischargeDepth := 8) [State.dirTake_eventLimits, State.heard_eventLimits, State.unitTake_eventLimits, State.windowTake_eventLimits]; done)

theorem State.deliverCorrupted_eventLimits (s : State)
    (hq : EventLimits s.port.events) : EventLimits s.deliverCorrupted.port.events := by
  simp only [State.deliverCorrupted]
  (repeat' split) <;> first | (simp (maxDischargeDepth := 8) [hq, State.closeWindow_eventLimits, State.txLost_eventLimits]; done) | (simp_all (maxDischargeDepth := 8) [State.closeWindow_eventLimits, State.txLost_eventLimits]; done)

theorem State.arriveOrGoOn_eventLimits (s : State)
    (hq : EventLimits s.port.events) : EventLimits s.arriveOrGoOn.port.events := by
  simp only [State.arriveOrGoOn]
  (repeat' split) <;> first | (simp (maxDischargeDepth := 8) [hq, State.endMove_eventLimits]; done) | (simp_all (maxDischargeDepth := 8) [State.endMove_eventLimits]; done)

theorem State.takeMoveStep_eventLimits (s : State)
    (hq : EventLimits s.port.events) : EventLimits s.takeMoveStep.port.events := by
  simp only [State.takeMoveStep]
  (repeat' split) <;> first | (simp (maxDischargeDepth := 8) [hq, State.reportFault_eventLimits, State.arriveOrGoOn_eventLimits]; done) | (simp_all (maxDischargeDepth := 8) [State.reportFault_eventLimits, State.arriveOrGoOn_eventLimits]; done)

theorem State.relocateDone_eventLimits (s : State) (p : Nat)
    (hq : EventLimits s.port.events) : EventLimits (s.relocateDone p).port.events := by
  simp only [State.relocateDone]
  (repeat' split) <;> first | (simp (maxDischargeDepth := 8) [hq, State.queueEvent_eventLimits]; done) | (simp_all (maxDischargeDepth := 8) [State.queueEvent_eventLimits]; done)

theorem State.takeRelocStep_eventLimits (s : State)
    (hq : EventLimits s.port.events) : EventLimits s.takeRelocStep.port.events := by
  simp only [State.takeRelocStep]
  (repeat' split) <;> first | (simp (maxDischargeDepth := 8) [hq, State.reportFault_eventLimits, State.relocateDone_eventLimits]; done) | (simp_all (maxDischargeDepth := 8) [State.reportFault_eventLimits, State.relocateDone_eventLimits]; done)

end Sys2Proof.Machine
end

