-- ==== Sys2Proof/Laws/Latch.lean ====
section
/-! SUPPORT. The fault latch keeps its law through every shared operation that can report a fault; the other operations
leave the latch as it is (Laws/Keeps.lean). -/

namespace Sys2Proof.Machine

set_option linter.unusedTactic false
set_option linter.unreachableTactic false
set_option linter.unusedVariables false
set_option linter.unnecessarySeqFocus false
set_option linter.unusedSimpArgs false

theorem addAddr_nodup (l : List Addr) (a : Addr) (h : l.Nodup) : (addAddr l a).Nodup := by
  unfold addAddr
  split
  · exact h
  · rename_i hn
    have hn' : a ∉ l := by simpa using hn
    rw [List.nodup_append]
    exact ⟨h, by simp, by intro x hx y hy; simp at hy; subst hy; intro e; subst e; exact hn' hx⟩

/-- What the latch takes keeps its law (R167). -/
theorem FaultUnit.take_latchLaw (f g : FaultUnit) (r : FaultReport) (hf : LatchLaw f) (h : f.take r = some g) :
    LatchLaw g := by
  obtain ⟨hd, hc⟩ := hf
  unfold FaultUnit.take at h
  split at h <;> first
    | (cases h; constructor <;> simp_all [addAddr_nodup])
    | (split at h <;> cases h; constructor <;> simp_all [addAddr_nodup])

theorem State.reportFault_latchLaw (s : State) (r : FaultReport)
    (hq : LatchLaw s.fault) : LatchLaw (s.reportFault r).fault := by
  unfold State.reportFault
  split
  · exact hq
  · rename_i g hg
    simpa using FaultUnit.take_latchLaw _ _ _ hq hg

theorem State.dirPresence_latchLaw (s : State) (x : Addr) (held occupied : ZRange) (mode : MotionState)
    (hq : LatchLaw s.fault) : LatchLaw (s.dirPresence x held occupied mode).fault := by
  simp only [State.dirPresence]
  (repeat' split) <;> first | (simp (maxDischargeDepth := 8) [hq, State.reportFault_latchLaw]; done) | (simp_all (maxDischargeDepth := 8) [State.reportFault_latchLaw]; done)

theorem State.dirTake_latchLaw (s : State) (sender : Addr) (f : Option Frame)
    (hq : LatchLaw s.fault) : LatchLaw (s.dirTake sender f).fault := by
  simp only [State.dirTake]
  (repeat' split) <;> first | (simp (maxDischargeDepth := 8) [hq, State.dirPresence_latchLaw]; done) | (simp_all (maxDischargeDepth := 8) [State.dirPresence_latchLaw]; done)

theorem State.answerJoin_latchLaw (s : State) (x : Addr) (j : ZRange) (answered : Bool)
    (hq : LatchLaw s.fault) : LatchLaw (s.answerJoin x j answered).fault := by
  simp only [State.answerJoin]
  (repeat' split) <;> first | (simp (maxDischargeDepth := 8) [hq, State.reportFault_latchLaw]; done) | (simp_all (maxDischargeDepth := 8) [State.reportFault_latchLaw]; done)

theorem State.becomeEvicted_latchLaw (s : State)
    (hq : LatchLaw s.fault) : LatchLaw s.becomeEvicted.fault := by
  simp only [State.becomeEvicted]
  (repeat' split) <;> first | (simp (maxDischargeDepth := 8) [hq, State.reportFault_latchLaw]; done) | (simp_all (maxDischargeDepth := 8) [State.reportFault_latchLaw]; done)

theorem State.resolveTarget_latchLaw (s : State) (cause : CloseCause)
    (hq : LatchLaw s.fault) : LatchLaw (s.resolveTarget cause).fault := by
  simp only [State.resolveTarget]
  (repeat' split) <;> first | (simp (maxDischargeDepth := 8) [hq, State.becomeEvicted_latchLaw]; done) | (simp_all (maxDischargeDepth := 8) [State.becomeEvicted_latchLaw]; done)

theorem State.reportClose_latchLaw (s : State) (originator : Addr) (kind : WindowKind) (cause : CloseCause)
    (hq : LatchLaw s.fault) : LatchLaw (s.reportClose originator kind cause).fault := by
  simp only [State.reportClose]
  (repeat' split) <;> first | (simp (maxDischargeDepth := 8) [hq, State.resolveTarget_latchLaw]; done) | (simp_all (maxDischargeDepth := 8) [State.resolveTarget_latchLaw]; done)

theorem State.closeWindow_latchLaw (s : State) (cause : CloseCause)
    (hq : LatchLaw s.fault) : LatchLaw (s.closeWindow cause).fault := by
  simp only [State.closeWindow]
  (repeat' split) <;> first | (simp (maxDischargeDepth := 8) [hq, State.reportClose_latchLaw]; done) | (simp_all (maxDischargeDepth := 8) [State.reportClose_latchLaw]; done)

theorem State.windowFrame_latchLaw (s : State) (sender : Addr) (own : Bool) (kind : WindowKind) (tag : Tag)
    (hq : LatchLaw s.fault) : LatchLaw (s.windowFrame sender own kind tag).fault := by
  simp only [State.windowFrame]
  (repeat' split) <;> first | (simp (maxDischargeDepth := 8) [hq, State.closeWindow_latchLaw]; done) | (simp_all (maxDischargeDepth := 8) [State.closeWindow_latchLaw]; done)

theorem State.heard_latchLaw (s : State) (a : Addr)
    (hq : LatchLaw s.fault) : LatchLaw (s.heard a).fault := by
  simp only [State.heard]
  (repeat' split) <;> first | (simp (maxDischargeDepth := 8) [hq, State.closeWindow_latchLaw]; done) | (simp_all (maxDischargeDepth := 8) [State.closeWindow_latchLaw]; done)

theorem State.unitTake_latchLaw (s : State) (sender : Addr) (own : Bool) (answered : Bool) (f : Option Frame)
    (hq : LatchLaw s.fault) : LatchLaw (s.unitTake sender own answered f).fault := by
  simp only [State.unitTake]
  (repeat' split) <;> first | (simp (maxDischargeDepth := 8) [hq, State.answerJoin_latchLaw]; done) | (simp_all (maxDischargeDepth := 8) [State.answerJoin_latchLaw]; done)

theorem State.windowTake_latchLaw (s : State) (sender : Addr) (own : Bool) (f : Option Frame)
    (hq : LatchLaw s.fault) : LatchLaw (s.windowTake sender own f).fault := by
  simp only [State.windowTake]
  (repeat' split) <;> first | (simp (maxDischargeDepth := 8) [hq, State.windowFrame_latchLaw]; done) | (simp_all (maxDischargeDepth := 8) [State.windowFrame_latchLaw]; done)

theorem State.deliverValid_latchLaw (s : State) (sender : Addr) (own : Bool) (f : Option Frame)
    (hq : LatchLaw s.fault) : LatchLaw (s.deliverValid sender own f).fault := by
  simp only [State.deliverValid]
  (repeat' split) <;> first | (simp (maxDischargeDepth := 8) [hq, State.dirTake_latchLaw, State.heard_latchLaw, State.unitTake_latchLaw, State.windowTake_latchLaw]; done) | (simp_all (maxDischargeDepth := 8) [State.dirTake_latchLaw, State.heard_latchLaw, State.unitTake_latchLaw, State.windowTake_latchLaw]; done)

theorem State.deliverCorrupted_latchLaw (s : State)
    (hq : LatchLaw s.fault) : LatchLaw s.deliverCorrupted.fault := by
  simp only [State.deliverCorrupted]
  (repeat' split) <;> first | (simp (maxDischargeDepth := 8) [hq, State.closeWindow_latchLaw]; done) | (simp_all (maxDischargeDepth := 8) [State.closeWindow_latchLaw]; done)

theorem State.takeMoveStep_latchLaw (s : State)
    (hq : LatchLaw s.fault) : LatchLaw s.takeMoveStep.fault := by
  simp only [State.takeMoveStep]
  (repeat' split) <;> first | (simp (maxDischargeDepth := 8) [hq, State.reportFault_latchLaw]; done) | (simp_all (maxDischargeDepth := 8) [State.reportFault_latchLaw]; done)

theorem State.takeRelocStep_latchLaw (s : State)
    (hq : LatchLaw s.fault) : LatchLaw s.takeRelocStep.fault := by
  simp only [State.takeRelocStep]
  (repeat' split) <;> first | (simp (maxDischargeDepth := 8) [hq, State.reportFault_latchLaw]; done) | (simp_all (maxDischargeDepth := 8) [State.reportFault_latchLaw]; done)

end Sys2Proof.Machine
end

