-- ==== Sys2Proof/Laws/OutgoingQueue.lean ====
section
/-! SUPPORT. The outgoing queue keeps its limits through every shared operation (R37, R38). -/

namespace Sys2Proof.Machine

set_option linter.unusedTactic false
set_option linter.unreachableTactic false
set_option linter.unusedVariables false
set_option linter.unnecessarySeqFocus false
set_option linter.unusedSimpArgs false

/-! ### Shorter queues -/

theorem QueueLimits.sublist {p q : List QEntry} (h : QueueLimits q) (hs : List.Sublist p q) : QueueLimits p where
  size := Nat.le_trans hs.length_le h.size
  presence := Nat.le_trans hs.countP_le h.presence
  claimOrJoin := Nat.le_trans hs.countP_le h.claimOrJoin
  release side := Nat.le_trans hs.countP_le (h.release side)

theorem QueueLimits.erase {q : List QEntry} (h : QueueLimits q) (e : QEntry) : QueueLimits (q.erase e) :=
  h.sublist List.erase_sublist

theorem QueueLimits.filter {q : List QEntry} (h : QueueLimits q) (p : QEntry → Bool) : QueueLimits (q.filter p) :=
  h.sublist List.filter_sublist

theorem QueueLimits.nil : QueueLimits [] where
  size := by simp
  presence := by simp
  claimOrJoin := by simp
  release := by simp

theorem withdrawAnswers_queueLimits (q : List QEntry) (w : WindowId) (h : QueueLimits q) :
    QueueLimits (withdrawAnswers q w) := h.filter _

/-- Displacing an entry of a class leaves a queue that is one shorter. -/
theorem displace_spec {cls : Nat} {q q' : List QEntry} (h : displace cls q = some q') :
    List.Sublist q' q ∧ q'.length + 1 = q.length := by
  unfold displace at h
  split at h
  · rename_i hany
    simp only [Option.some.injEq] at h
    subst h
    refine ⟨?_, ?_⟩
    · have : List.Sublist (q.reverse.eraseP (fun e => e.cls == cls)) q.reverse := List.eraseP_sublist
      simpa using this.reverse
    · obtain ⟨e, he, hp⟩ := List.any_eq_true.1 hany
      have hl := List.length_eraseP_of_mem (p := fun e : QEntry => e.cls == cls) (l := q.reverse) (a := e) (by simpa using he) hp
      have : 0 < q.length := List.length_pos_of_mem he
      simp only [List.length_reverse] at hl ⊢
      omega
  · simp at h

/-! ### Admission and offers -/

/-- A queue with one entry more keeps the limits if the entry is alone in each limited group it belongs to. -/
theorem QueueLimits.snoc {q : List QEntry} (h : QueueLimits q) (e : QEntry) (hl : q.length < 8)
    (hp : e.isPresence = true → q.countP QEntry.isPresence = 0)
    (hc : e.isClaimOrJoin = true → q.countP QEntry.isClaimOrJoin = 0)
    (hr : ∀ side, e.isReleaseOn side = true → q.countP (fun x => x.isReleaseOn side) = 0) : QueueLimits (q ++ [e]) where
  size := by simp; omega
  presence := by
    have := h.presence
    rw [List.countP_append, List.countP_singleton]
    cases he : e.isPresence
    · simpa using this
    · simp [hp he]
  claimOrJoin := by
    have := h.claimOrJoin
    rw [List.countP_append, List.countP_singleton]
    cases he : e.isClaimOrJoin
    · simpa using this
    · simp [hc he]
  release side := by
    have := h.release side
    rw [List.countP_append, List.countP_singleton]
    cases he : e.isReleaseOn side
    · simpa using this
    · simp [hr side he]

theorem countP_eq_zero_of_sublist {p q : List QEntry} {f : QEntry → Bool} (hs : List.Sublist p q) (h : q.countP f = 0) :
    p.countP f = 0 := Nat.le_zero.1 (h ▸ hs.countP_le)

theorem admit_queueLimits {q : List QEntry} (h : QueueLimits q) (e : QEntry)
    (hp : e.isPresence = true → q.countP QEntry.isPresence = 0)
    (hc : e.isClaimOrJoin = true → q.countP QEntry.isClaimOrJoin = 0)
    (hr : ∀ side, e.isReleaseOn side = true → q.countP (fun x => x.isReleaseOn side) = 0) : QueueLimits (takeOffer q e).1 := by
  have hsize := h.size
  unfold takeOffer outQueueSize
  split
  · exact h.snoc e (by assumption) hp hc hr
  · split
    · exact h
    · split
      · rename_i q' hq'
        obtain ⟨hs, hl⟩ := displace_spec hq'
        exact (h.sublist hs).snoc e (by omega) (fun x => countP_eq_zero_of_sublist hs (hp x))
          (fun x => countP_eq_zero_of_sublist hs (hc x)) (fun s x => countP_eq_zero_of_sublist hs (hr s x))
      · split
        · rename_i q' hq'
          obtain ⟨hs, hl⟩ := displace_spec hq'
          exact (h.sublist hs).snoc e (by omega) (fun x => countP_eq_zero_of_sublist hs (hp x))
            (fun x => countP_eq_zero_of_sublist hs (hc x)) (fun s x => countP_eq_zero_of_sublist hs (hr s x))
        · exact h

theorem QEntry.mergeRelease_groups (e : QEntry) (r : ZRange) (side : Side) :
    (e.mergeRelease r).isPresence = e.isPresence ∧ (e.mergeRelease r).isClaimOrJoin = e.isClaimOrJoin ∧
    (e.mergeRelease r).isReleaseOn side = e.isReleaseOn side := by
  rcases e with ⟨p, a, sd⟩
  unfold QEntry.mergeRelease QEntry.isPresence QEntry.isClaimOrJoin QEntry.isClaim QEntry.isJoin QEntry.isReleaseOn
  rcases p with _ | _ | f <;> simp
  have hb : ∀ g : Frame, (Payload.frame g == Payload.presence) = false ∧ (Payload.frame g == Payload.claim) = false := by
    intro g; constructor <;> simp [beq_eq_false_iff_ne]
  rcases f <;> simp [hb]

theorem QueueLimits.map {q : List QEntry} (h : QueueLimits q) (f : QEntry → QEntry)
    (hp : ∀ e, (f e).isPresence = e.isPresence) (hc : ∀ e, (f e).isClaimOrJoin = e.isClaimOrJoin)
    (hr : ∀ side e, (f e).isReleaseOn side = e.isReleaseOn side) : QueueLimits (q.map f) where
  size := by simpa using h.size
  presence := by
    have := h.presence
    rwa [List.countP_map, show QEntry.isPresence ∘ f = QEntry.isPresence from funext hp]
  claimOrJoin := by
    have := h.claimOrJoin
    rwa [List.countP_map, show QEntry.isClaimOrJoin ∘ f = QEntry.isClaimOrJoin from funext hc]
  release side := by
    have := h.release side
    rwa [List.countP_map, show (fun x => QEntry.isReleaseOn x side) ∘ f = (fun x => QEntry.isReleaseOn x side) from
      funext (hr side)]

theorem countP_eq_zero_of_any {q : List QEntry} {f : QEntry → Bool} (h : ¬ q.any f = true) : q.countP f = 0 := by
  rw [List.countP_eq_zero]
  intro a ha hf
  exact h (List.any_eq_true.2 ⟨a, ha, hf⟩)

theorem offerTo_queueLimits (q : List QEntry) (e : QEntry) (h : QueueLimits q) : QueueLimits (offerTo q e).1 := by
  rcases e with ⟨p, a, sd⟩
  unfold offerTo
  rcases p with _ | _ | f
  · simp only
    split
    · exact h
    · rename_i hn
      exact admit_queueLimits h _ (by simp [QEntry.isPresence])
        (fun _ => countP_eq_zero_of_any (by simpa [QEntry.isClaimOrJoin] using hn)) (by simp [QEntry.isReleaseOn])
  · simp only
    split
    · exact h
    · rename_i hn
      exact admit_queueLimits h _ (fun _ => countP_eq_zero_of_any hn)
        (by simp [QEntry.isClaimOrJoin, QEntry.isClaim, QEntry.isJoin]) (by simp [QEntry.isReleaseOn])
  · rcases f with _ | _ | _ | _ | r | _ | _ | _
    case release =>
      cases sd with
      | none =>
        exact admit_queueLimits h _ (by simp [QEntry.isPresence])
          (by simp [QEntry.isClaimOrJoin, QEntry.isClaim, QEntry.isJoin]) (by simp [QEntry.isReleaseOn])
      | some side =>
        simp only
        split
        · refine h.map _ ?_ ?_ ?_ <;> intros <;> (split <;> first | rfl | simp [QEntry.mergeRelease_groups _ _ side, QEntry.mergeRelease_groups])
        · rename_i hn
          refine admit_queueLimits h _ (by simp [QEntry.isPresence])
            (by simp [QEntry.isClaimOrJoin, QEntry.isClaim, QEntry.isJoin]) ?_
          intro s hs
          simp only [QEntry.isReleaseOn, beq_iff_eq, Option.some.injEq] at hs
          subst hs
          exact countP_eq_zero_of_any hn
    case join =>
      simp only
      split
      · exact h
      · rename_i hn
        exact admit_queueLimits h _ (by simp [QEntry.isPresence])
          (fun _ => countP_eq_zero_of_any (by simpa [QEntry.isClaimOrJoin] using hn)) (by simp [QEntry.isReleaseOn])
    all_goals
      exact admit_queueLimits h _ (by simp [QEntry.isPresence])
        (by simp [QEntry.isClaimOrJoin, QEntry.isClaim, QEntry.isJoin]) (by simp [QEntry.isReleaseOn])

/-! ### The operations -/

theorem State.offer_queueLimits (s : State) (e : QEntry)
    (hq : QueueLimits s.access.queue) : QueueLimits (s.offer e).access.queue := by
  simp only [State.offer]
  (repeat' split) <;> first | (simp (maxDischargeDepth := 8) [hq, offerTo_queueLimits]; done) | (simp_all (maxDischargeDepth := 8) [offerTo_queueLimits]; done)

theorem State.formClaim_queueLimits (s : State)
    (hq : QueueLimits s.access.queue) : QueueLimits s.formClaim.access.queue := by
  simp only [State.formClaim]
  (repeat' split) <;> first | (simp (maxDischargeDepth := 8) [hq, State.offer_queueLimits]; done) | (simp_all (maxDischargeDepth := 8) [State.offer_queueLimits]; done)

theorem State.arm_queueLimits (s : State)
    (hq : QueueLimits s.access.queue) : QueueLimits s.arm.access.queue := by
  simp only [State.arm]
  (repeat' split) <;> first | (simp (maxDischargeDepth := 8) [hq, State.formClaim_queueLimits]; done) | (simp_all (maxDischargeDepth := 8) [State.formClaim_queueLimits]; done)

theorem State.notice_queueLimits (s : State) (a : Addr)
    (hq : QueueLimits s.access.queue) : QueueLimits (s.notice a).access.queue := by
  simp only [State.notice]
  (repeat' split) <;> first | (simp (maxDischargeDepth := 8) [hq, State.arm_queueLimits]; done) | (simp_all (maxDischargeDepth := 8) [State.arm_queueLimits]; done)

theorem State.setNeed_queueLimits (s : State) (new : Option Need)
    (hq : QueueLimits s.access.queue) : QueueLimits (s.setNeed new).access.queue := by
  simp only [State.setNeed]
  (repeat' split) <;> first | (simp (maxDischargeDepth := 8) [hq, State.formClaim_queueLimits, State.arm_queueLimits]; done) | (simp_all (maxDischargeDepth := 8) [State.formClaim_queueLimits, State.arm_queueLimits]; done)

theorem State.updateNeed_queueLimits (s : State)
    (hq : QueueLimits s.access.queue) : QueueLimits s.updateNeed.access.queue := by
  simp only [State.updateNeed]
  (repeat' split) <;> first | (simp (maxDischargeDepth := 8) [hq, State.setNeed_queueLimits]; done) | (simp_all (maxDischargeDepth := 8) [State.setNeed_queueLimits]; done)

theorem State.onHeldChange_queueLimits (s : State)
    (hq : QueueLimits s.access.queue) : QueueLimits s.onHeldChange.access.queue := by
  simp only [State.onHeldChange]
  (repeat' split) <;> first | (simp (maxDischargeDepth := 8) [hq, State.updateNeed_queueLimits]; done) | (simp_all (maxDischargeDepth := 8) [State.updateNeed_queueLimits]; done)

theorem State.setHeld_queueLimits (s : State) (h : ZRange)
    (hq : QueueLimits s.access.queue) : QueueLimits (s.setHeld h).access.queue := by
  simp only [State.setHeld]
  (repeat' split) <;> first | (simp (maxDischargeDepth := 8) [hq, State.onHeldChange_queueLimits]; done) | (simp_all (maxDischargeDepth := 8) [State.onHeldChange_queueLimits]; done)

theorem State.release_queueLimits (s : State) (r : ZRange) (side : Side)
    (hq : QueueLimits s.access.queue) : QueueLimits (s.release r side).access.queue := by
  simp only [State.release]
  (repeat' split) <;> first | (simp (maxDischargeDepth := 8) [hq, State.offer_queueLimits, State.onHeldChange_queueLimits]; done) | (simp_all (maxDischargeDepth := 8) [State.offer_queueLimits, State.onHeldChange_queueLimits]; done)

theorem State.releaseBelow_queueLimits (s : State) (z : Nat)
    (hq : QueueLimits s.access.queue) : QueueLimits (s.releaseBelow z).access.queue := by
  simp only [State.releaseBelow]
  (repeat' split) <;> first | (simp (maxDischargeDepth := 8) [hq, State.release_queueLimits]; done) | (simp_all (maxDischargeDepth := 8) [State.release_queueLimits]; done)

theorem State.releaseAbove_queueLimits (s : State) (z : Nat)
    (hq : QueueLimits s.access.queue) : QueueLimits (s.releaseAbove z).access.queue := by
  simp only [State.releaseAbove]
  (repeat' split) <;> first | (simp (maxDischargeDepth := 8) [hq, State.release_queueLimits]; done) | (simp_all (maxDischargeDepth := 8) [State.release_queueLimits]; done)

theorem State.trim_queueLimits (s : State)
    (hq : QueueLimits s.access.queue) : QueueLimits s.trim.access.queue := by
  simp only [State.trim]
  (repeat' split) <;> first | (simp (maxDischargeDepth := 8) [hq, State.releaseBelow_queueLimits, State.releaseAbove_queueLimits]; done) | (simp_all (maxDischargeDepth := 8) [State.releaseBelow_queueLimits, State.releaseAbove_queueLimits]; done)

theorem State.endMove_queueLimits (s : State) (reason : EndReason)
    (hq : QueueLimits s.access.queue) : QueueLimits (s.endMove reason).access.queue := by
  simp only [State.endMove]
  (repeat' split) <;> first | (simp (maxDischargeDepth := 8) [hq, State.updateNeed_queueLimits, State.trim_queueLimits]; done) | (simp_all (maxDischargeDepth := 8) [State.updateNeed_queueLimits, State.trim_queueLimits]; done)

theorem State.endRelocate_queueLimits (s : State) (reason : EndReason) (after : MotionState)
    (hq : QueueLimits s.access.queue) : QueueLimits (s.endRelocate reason after).access.queue := by
  simp only [State.endRelocate]
  (repeat' split) <;> first | (simp (maxDischargeDepth := 8) [hq, State.setNeed_queueLimits]; done) | (simp_all (maxDischargeDepth := 8) [State.setNeed_queueLimits]; done)

theorem State.enterDirection_queueLimits (s : State) (r : RelocRecord)
    (hq : QueueLimits s.access.queue) : QueueLimits (s.enterDirection r).access.queue := by
  simp only [State.enterDirection]
  (repeat' split) <;> first | (simp (maxDischargeDepth := 8) [hq, State.updateNeed_queueLimits]; done) | (simp_all (maxDischargeDepth := 8) [State.updateNeed_queueLimits]; done)

theorem State.relocateUp_queueLimits (s : State) (r : RelocRecord)
    (hq : QueueLimits s.access.queue) : QueueLimits (s.relocateUp r).access.queue := by
  simp only [State.relocateUp]
  (repeat' split) <;> first | (simp (maxDischargeDepth := 8) [hq, State.endRelocate_queueLimits, State.enterDirection_queueLimits]; done) | (simp_all (maxDischargeDepth := 8) [State.endRelocate_queueLimits, State.enterDirection_queueLimits]; done)

theorem State.chooseDirection_queueLimits (s : State) (r : RelocRecord)
    (hq : QueueLimits s.access.queue) : QueueLimits (s.chooseDirection r).access.queue := by
  simp only [State.chooseDirection]
  (repeat' split) <;> first | (simp (maxDischargeDepth := 8) [hq, State.endRelocate_queueLimits, State.enterDirection_queueLimits, State.relocateUp_queueLimits]; done) | (simp_all (maxDischargeDepth := 8) [State.endRelocate_queueLimits, State.enterDirection_queueLimits, State.relocateUp_queueLimits]; done)

theorem State.onClaimFailed_queueLimits (s : State) (side : Side)
    (hq : QueueLimits s.access.queue) : QueueLimits (s.onClaimFailed side).access.queue := by
  simp only [State.onClaimFailed]
  (repeat' split) <;> first | (simp (maxDischargeDepth := 8) [hq, State.endRelocate_queueLimits, State.relocateUp_queueLimits]; done) | (simp_all (maxDischargeDepth := 8) [State.endRelocate_queueLimits, State.relocateUp_queueLimits]; done)

theorem State.forceHalt_queueLimits (s : State) (cause : FaultCause)
    (hq : QueueLimits s.access.queue) : QueueLimits (s.forceHalt cause).access.queue := by
  simp only [State.forceHalt]
  (repeat' split) <;> first | (simp (maxDischargeDepth := 8) [hq, State.updateNeed_queueLimits, State.endMove_queueLimits, State.endRelocate_queueLimits]; done) | (simp_all (maxDischargeDepth := 8) [State.updateNeed_queueLimits, State.endMove_queueLimits, State.endRelocate_queueLimits]; done)

theorem State.reportFault_queueLimits (s : State) (r : FaultReport)
    (hq : QueueLimits s.access.queue) : QueueLimits (s.reportFault r).access.queue := by
  simp only [State.reportFault]
  (repeat' split) <;> first | (simp (maxDischargeDepth := 8) [hq, State.forceHalt_queueLimits]; done) | (simp_all (maxDischargeDepth := 8) [State.forceHalt_queueLimits]; done)

theorem State.noticeChange_queueLimits (after before : State) (a : Addr)
    (hq : QueueLimits after.access.queue) : QueueLimits (after.noticeChange before a).access.queue := by
  simp only [State.noticeChange]
  (repeat' split) <;> first | (simp (maxDischargeDepth := 8) [hq, State.notice_queueLimits]; done) | (simp_all (maxDischargeDepth := 8) [State.notice_queueLimits]; done)

theorem State.dirPresence_queueLimits (s : State) (x : Addr) (held occupied : ZRange) (mode : MotionState)
    (hq : QueueLimits s.access.queue) : QueueLimits (s.dirPresence x held occupied mode).access.queue := by
  simp only [State.dirPresence]
  (repeat' split) <;> first | (simp (maxDischargeDepth := 8) [hq, State.reportFault_queueLimits, State.noticeChange_queueLimits]; done) | (simp_all (maxDischargeDepth := 8) [State.reportFault_queueLimits, State.noticeChange_queueLimits]; done)

theorem State.dirGrant_queueLimits (s : State) (x : Addr) (g : ZRange)
    (hq : QueueLimits s.access.queue) : QueueLimits (s.dirGrant x g).access.queue := by
  simp only [State.dirGrant]
  (repeat' split) <;> first | (simp (maxDischargeDepth := 8) [hq, State.noticeChange_queueLimits]; done) | (simp_all (maxDischargeDepth := 8) [State.noticeChange_queueLimits]; done)

theorem State.dirRelease_queueLimits (s : State) (x : Addr) (r : ZRange)
    (hq : QueueLimits s.access.queue) : QueueLimits (s.dirRelease x r).access.queue := by
  simp only [State.dirRelease]
  (repeat' split) <;> first | (simp (maxDischargeDepth := 8) [hq, State.noticeChange_queueLimits]; done) | (simp_all (maxDischargeDepth := 8) [State.noticeChange_queueLimits]; done)

theorem State.dirJoin_queueLimits (s : State) (x : Addr) (j : ZRange)
    (hq : QueueLimits s.access.queue) : QueueLimits (s.dirJoin x j).access.queue := by
  simp only [State.dirJoin]
  (repeat' split) <;> first | (simp (maxDischargeDepth := 8) [hq, State.noticeChange_queueLimits]; done) | (simp_all (maxDischargeDepth := 8) [State.noticeChange_queueLimits]; done)

theorem State.dirEvict_queueLimits (s : State) (y : Addr)
    (hq : QueueLimits s.access.queue) : QueueLimits (s.dirEvict y).access.queue := by
  simp only [State.dirEvict]
  (repeat' split) <;> first | (simp (maxDischargeDepth := 8) [hq, State.noticeChange_queueLimits]; done) | (simp_all (maxDischargeDepth := 8) [State.noticeChange_queueLimits]; done)

theorem State.dirTake_queueLimits (s : State) (sender : Addr) (f : Option Frame)
    (hq : QueueLimits s.access.queue) : QueueLimits (s.dirTake sender f).access.queue := by
  simp only [State.dirTake]
  (repeat' split) <;> first | (simp (maxDischargeDepth := 8) [hq, State.release_queueLimits, State.dirPresence_queueLimits, State.dirGrant_queueLimits, State.dirRelease_queueLimits, State.dirJoin_queueLimits, State.dirEvict_queueLimits]; done) | (simp_all (maxDischargeDepth := 8) [State.release_queueLimits, State.dirPresence_queueLimits, State.dirGrant_queueLimits, State.dirRelease_queueLimits, State.dirJoin_queueLimits, State.dirEvict_queueLimits]; done)

theorem State.silence_queueLimits (s : State) (a : Addr)
    (hq : QueueLimits s.access.queue) : QueueLimits (s.silence a).access.queue := by
  simp only [State.silence]
  (repeat' split) <;> first | (simp (maxDischargeDepth := 8) [hq, State.noticeChange_queueLimits]; done) | (simp_all (maxDischargeDepth := 8) [State.noticeChange_queueLimits]; done)

theorem State.dirResolve_queueLimits (s : State) (cause : CloseCause)
    (hq : QueueLimits s.access.queue) : QueueLimits (s.dirResolve cause).access.queue := by
  simp only [State.dirResolve]
  (repeat' split) <;> first | (simp (maxDischargeDepth := 8) [hq, State.noticeChange_queueLimits]; done) | (simp_all (maxDischargeDepth := 8) [State.noticeChange_queueLimits]; done)

theorem State.claimFailed_queueLimits (s : State) (reason : EventReason) (station : Option Addr) (zone : Nat) (watched : List Addr) (side : Side)
    (hq : QueueLimits s.access.queue) : QueueLimits (s.claimFailed reason station zone watched side).access.queue := by
  simp only [State.claimFailed]
  (repeat' split) <;> first | (simp (maxDischargeDepth := 8) [hq, State.onClaimFailed_queueLimits]; done) | (simp_all (maxDischargeDepth := 8) [State.onClaimFailed_queueLimits]; done)

theorem State.attemptFailed_queueLimits (s : State) (reason : EventReason) (station : Option Addr) (zone : Nat) (watched : List Addr) (side : Side)
    (hq : QueueLimits s.access.queue) : QueueLimits (s.attemptFailed reason station zone watched side).access.queue := by
  simp only [State.attemptFailed]
  (repeat' split) <;> first | (simp (maxDischargeDepth := 8) [hq, State.claimFailed_queueLimits]; done) | (simp_all (maxDischargeDepth := 8) [State.claimFailed_queueLimits]; done)

theorem State.clipCandidate_queueLimits (s : State) (side : Side) (candidate : ZRange)
    (hq : QueueLimits s.access.queue) : QueueLimits (s.clipCandidate side candidate).1.access.queue := by
  simp only [State.clipCandidate]
  (repeat' split) <;> first | (simp (maxDischargeDepth := 8) [hq, State.release_queueLimits]; done) | (simp_all (maxDischargeDepth := 8) [State.release_queueLimits]; done)

theorem State.addRange_queueLimits (s : State) (r : ClaimRecord) (side : Side) (candidate : ZRange)
    (hq : QueueLimits s.access.queue) : QueueLimits (s.addRange r side candidate).access.queue := by
  simp only [State.addRange]
  (repeat' split) <;> first | (simp (maxDischargeDepth := 8) [hq, State.setHeld_queueLimits, State.release_queueLimits, State.attemptFailed_queueLimits, State.clipCandidate_queueLimits]; done) | (simp_all (maxDischargeDepth := 8) [State.setHeld_queueLimits, State.release_queueLimits, State.attemptFailed_queueLimits, State.clipCandidate_queueLimits]; done)

theorem State.disclaim_queueLimits (s : State) (r : ClaimRecord) (side : Side) (reason : EventReason)
    (hq : QueueLimits s.access.queue) : QueueLimits (s.disclaim r side reason).access.queue := by
  simp only [State.disclaim]
  (repeat' split) <;> first | (simp (maxDischargeDepth := 8) [hq, State.release_queueLimits, State.attemptFailed_queueLimits]; done) | (simp_all (maxDischargeDepth := 8) [State.release_queueLimits, State.attemptFailed_queueLimits]; done)

theorem State.concludeClaim_queueLimits (s : State) (inconclusive : Bool)
    (hq : QueueLimits s.access.queue) : QueueLimits (s.concludeClaim inconclusive).access.queue := by
  simp only [State.concludeClaim]
  (repeat' split) <;> first | (simp (maxDischargeDepth := 8) [hq, State.formClaim_queueLimits, State.addRange_queueLimits, State.disclaim_queueLimits]; done) | (simp_all (maxDischargeDepth := 8) [State.formClaim_queueLimits, State.addRange_queueLimits, State.disclaim_queueLimits]; done)

theorem State.dropClaimEntry_queueLimits (s : State)
    (hq : QueueLimits s.access.queue) : QueueLimits s.dropClaimEntry.access.queue := by
  simp only [State.dropClaimEntry]
  (repeat' split) <;> first | (simp (maxDischargeDepth := 8) [hq, QueueLimits.filter]; done) | (simp_all (maxDischargeDepth := 8) [QueueLimits.filter]; done)

theorem State.claimNotSent_queueLimits (s : State) (plan : ClaimPlan)
    (hq : QueueLimits s.access.queue) : QueueLimits (s.claimNotSent plan).access.queue := by
  simp only [State.claimNotSent]
  (repeat' split) <;> first | (simp (maxDischargeDepth := 8) [hq, State.formClaim_queueLimits, State.claimFailed_queueLimits, State.attemptFailed_queueLimits, State.dropClaimEntry_queueLimits]; done) | (simp_all (maxDischargeDepth := 8) [State.formClaim_queueLimits, State.claimFailed_queueLimits, State.attemptFailed_queueLimits, State.dropClaimEntry_queueLimits]; done)

theorem State.answerClaim_queueLimits (s : State) (x addressee : Addr) (tag : Tag) (side : Side) (unopposed : Bool) (range : ZRange)
    (hq : QueueLimits s.access.queue) : QueueLimits (s.answerClaim x addressee tag side unopposed range).access.queue := by
  simp only [State.answerClaim]
  (repeat' split) <;> first | (simp (maxDischargeDepth := 8) [hq, State.offer_queueLimits]; done) | (simp_all (maxDischargeDepth := 8) [State.offer_queueLimits]; done)

theorem State.makePresenceDue_queueLimits (s : State)
    (hq : QueueLimits s.access.queue) : QueueLimits s.makePresenceDue.access.queue := by
  simp only [State.makePresenceDue]
  (repeat' split) <;> first | (simp (maxDischargeDepth := 8) [hq, State.offer_queueLimits]; done) | (simp_all (maxDischargeDepth := 8) [State.offer_queueLimits]; done)

theorem State.beginAttempt_queueLimits (s : State) (attempt : Nat)
    (hq : QueueLimits s.access.queue) : QueueLimits (s.beginAttempt attempt).access.queue := by
  simp only [State.beginAttempt]
  (repeat' split) <;> first | (simp (maxDischargeDepth := 8) [hq, State.offer_queueLimits]; done) | (simp_all (maxDischargeDepth := 8) [State.offer_queueLimits]; done)

theorem State.joinRetry_queueLimits (s : State) (attempt : Nat) (reason : EventReason) (station : Option Addr)
    (hq : QueueLimits s.access.queue) : QueueLimits (s.joinRetry attempt reason station).access.queue := by
  simp only [State.joinRetry]
  (repeat' split) <;> first | (simp (maxDischargeDepth := 8) [hq, State.beginAttempt_queueLimits]; done) | (simp_all (maxDischargeDepth := 8) [State.beginAttempt_queueLimits]; done)

theorem State.adopt_queueLimits (s : State) (r : JoinRecord)
    (hq : QueueLimits s.access.queue) : QueueLimits (s.adopt r).access.queue := by
  simp only [State.adopt]
  (repeat' split) <;> first | (simp (maxDischargeDepth := 8) [hq, State.formClaim_queueLimits, State.setHeld_queueLimits, State.makePresenceDue_queueLimits]; done) | (simp_all (maxDischargeDepth := 8) [State.formClaim_queueLimits, State.setHeld_queueLimits, State.makePresenceDue_queueLimits]; done)

theorem State.concludeJoin_queueLimits (s : State) (inconclusive : Bool)
    (hq : QueueLimits s.access.queue) : QueueLimits (s.concludeJoin inconclusive).access.queue := by
  simp only [State.concludeJoin]
  (repeat' split) <;> first | (simp (maxDischargeDepth := 8) [hq, State.joinRetry_queueLimits, State.adopt_queueLimits]; done) | (simp_all (maxDischargeDepth := 8) [State.joinRetry_queueLimits, State.adopt_queueLimits]; done)

theorem State.answerJoin_queueLimits (s : State) (x : Addr) (j : ZRange) (answered : Bool)
    (hq : QueueLimits s.access.queue) : QueueLimits (s.answerJoin x j answered).access.queue := by
  simp only [State.answerJoin]
  (repeat' split) <;> first | (simp (maxDischargeDepth := 8) [hq, State.offer_queueLimits, State.reportFault_queueLimits]; done) | (simp_all (maxDischargeDepth := 8) [State.offer_queueLimits, State.reportFault_queueLimits]; done)

theorem State.targeted_queueLimits (s : State) (originator : Addr) (answered : Bool)
    (hq : QueueLimits s.access.queue) : QueueLimits (s.targeted originator answered).access.queue := by
  simp only [State.targeted]
  (repeat' split) <;> first | (simp (maxDischargeDepth := 8) [hq, State.offer_queueLimits]; done) | (simp_all (maxDischargeDepth := 8) [State.offer_queueLimits]; done)

theorem State.becomeEvicted_queueLimits (s : State)
    (hq : QueueLimits s.access.queue) : QueueLimits s.becomeEvicted.access.queue := by
  simp only [State.becomeEvicted]
  (repeat' split) <;> first | (simp (maxDischargeDepth := 8) [hq, State.reportFault_queueLimits, QueueLimits.nil]; done) | (simp_all (maxDischargeDepth := 8) [State.reportFault_queueLimits, QueueLimits.nil]; done)

theorem State.resolveTarget_queueLimits (s : State) (cause : CloseCause)
    (hq : QueueLimits s.access.queue) : QueueLimits (s.resolveTarget cause).access.queue := by
  simp only [State.resolveTarget]
  (repeat' split) <;> first | (simp (maxDischargeDepth := 8) [hq, State.makePresenceDue_queueLimits, State.becomeEvicted_queueLimits]; done) | (simp_all (maxDischargeDepth := 8) [State.makePresenceDue_queueLimits, State.becomeEvicted_queueLimits]; done)

theorem State.transmit_queueLimits (s : State) (e : QEntry) (f : Frame)
    (hq : QueueLimits s.access.queue) : QueueLimits (s.transmit e f).access.queue := by
  simp only [State.transmit]
  (repeat' split) <;> first | (simp (maxDischargeDepth := 8) [hq, QueueLimits.erase]; done) | (simp_all (maxDischargeDepth := 8) [QueueLimits.erase]; done)

theorem State.handOver_queueLimits (s : State) (e : QEntry) (f : Frame)
    (hq : QueueLimits s.access.queue) : QueueLimits (s.handOver e f).access.queue := by
  simp only [State.handOver]
  (repeat' split) <;> first | (simp (maxDischargeDepth := 8) [hq, State.transmit_queueLimits]; done) | (simp_all (maxDischargeDepth := 8) [State.transmit_queueLimits]; done)

theorem State.handoverLoop_queueLimits (s : State) (fuel : Nat)
    (hq : QueueLimits s.access.queue) : QueueLimits (s.handoverLoop fuel).access.queue := by
  induction fuel generalizing s with
  | zero => simpa [State.handoverLoop] using hq
  | succ n ih =>
    simp only [State.handoverLoop]
    (repeat' split) <;> simp (maxDischargeDepth := 8) [ih, hq, State.claimNotSent_queueLimits, State.transmit_queueLimits, State.handOver_queueLimits]

theorem State.handover_queueLimits (s : State)
    (hq : QueueLimits s.access.queue) : QueueLimits s.handover.access.queue := by
  simp only [State.handover]
  (repeat' split) <;> first | (simp (maxDischargeDepth := 8) [hq, State.handoverLoop_queueLimits]; done) | (simp_all (maxDischargeDepth := 8) [State.handoverLoop_queueLimits]; done)

theorem State.kick_queueLimits (s : State)
    (hq : QueueLimits s.access.queue) : QueueLimits s.kick.access.queue := by
  simp only [State.kick]
  (repeat' split) <;> first | (simp (maxDischargeDepth := 8) [hq, State.handover_queueLimits]; done) | (simp_all (maxDischargeDepth := 8) [State.handover_queueLimits]; done)

theorem State.reportClose_queueLimits (s : State) (originator : Addr) (kind : WindowKind) (cause : CloseCause)
    (hq : QueueLimits s.access.queue) : QueueLimits (s.reportClose originator kind cause).access.queue := by
  simp only [State.reportClose]
  (repeat' split) <;> first | (simp (maxDischargeDepth := 8) [hq, State.dirResolve_queueLimits, State.concludeClaim_queueLimits, State.concludeJoin_queueLimits, State.resolveTarget_queueLimits]; done) | (simp_all (maxDischargeDepth := 8) [State.dirResolve_queueLimits, State.concludeClaim_queueLimits, State.concludeJoin_queueLimits, State.resolveTarget_queueLimits]; done)

theorem State.closeWindow_queueLimits (s : State) (cause : CloseCause)
    (hq : QueueLimits s.access.queue) : QueueLimits (s.closeWindow cause).access.queue := by
  simp only [State.closeWindow]
  (repeat' split) <;> first | (simp (maxDischargeDepth := 8) [hq, State.reportClose_queueLimits, withdrawAnswers_queueLimits]; done) | (simp_all (maxDischargeDepth := 8) [State.reportClose_queueLimits, withdrawAnswers_queueLimits]; done)

theorem State.windowFrame_queueLimits (s : State) (sender : Addr) (own : Bool) (kind : WindowKind) (tag : Tag)
    (hq : QueueLimits s.access.queue) : QueueLimits (s.windowFrame sender own kind tag).access.queue := by
  simp only [State.windowFrame]
  (repeat' split) <;> first | (simp (maxDischargeDepth := 8) [hq, State.offer_queueLimits, State.closeWindow_queueLimits]; done) | (simp_all (maxDischargeDepth := 8) [State.offer_queueLimits, State.closeWindow_queueLimits]; done)

theorem State.heard_queueLimits (s : State) (a : Addr)
    (hq : QueueLimits s.access.queue) : QueueLimits (s.heard a).access.queue := by
  simp only [State.heard]
  (repeat' split) <;> first | (simp (maxDischargeDepth := 8) [hq, State.closeWindow_queueLimits]; done) | (simp_all (maxDischargeDepth := 8) [State.closeWindow_queueLimits]; done)

theorem State.txLost_queueLimits (s : State)
    (hq : QueueLimits s.access.queue) : QueueLimits s.txLost.access.queue := by
  simp only [State.txLost]
  (repeat' split) <;> first | (simp (maxDischargeDepth := 8) [hq, State.offer_queueLimits, State.release_queueLimits, State.concludeClaim_queueLimits, State.concludeJoin_queueLimits]; done) | (simp_all (maxDischargeDepth := 8) [State.offer_queueLimits, State.release_queueLimits, State.concludeClaim_queueLimits, State.concludeJoin_queueLimits]; done)

theorem State.reoffer_queueLimits (s : State)
    (hq : QueueLimits s.access.queue) : QueueLimits s.reoffer.access.queue := by
  simp only [State.reoffer]
  (repeat' split) <;> first | (simp (maxDischargeDepth := 8) [hq, State.offer_queueLimits]; done) | (simp_all (maxDischargeDepth := 8) [State.offer_queueLimits]; done)

theorem State.unitTake_queueLimits (s : State) (sender : Addr) (own : Bool) (answered : Bool) (f : Option Frame)
    (hq : QueueLimits s.access.queue) : QueueLimits (s.unitTake sender own answered f).access.queue := by
  simp only [State.unitTake]
  (repeat' split) <;> first | (simp (maxDischargeDepth := 8) [hq, State.release_queueLimits, State.answerClaim_queueLimits, State.answerJoin_queueLimits, State.targeted_queueLimits]; done) | (simp_all (maxDischargeDepth := 8) [State.release_queueLimits, State.answerClaim_queueLimits, State.answerJoin_queueLimits, State.targeted_queueLimits]; done)

theorem State.windowTake_queueLimits (s : State) (sender : Addr) (own : Bool) (f : Option Frame)
    (hq : QueueLimits s.access.queue) : QueueLimits (s.windowTake sender own f).access.queue := by
  simp only [State.windowTake]
  (repeat' split) <;> first | (simp (maxDischargeDepth := 8) [hq, State.windowFrame_queueLimits]; done) | (simp_all (maxDischargeDepth := 8) [State.windowFrame_queueLimits]; done)

theorem State.deliverValid_queueLimits (s : State) (sender : Addr) (own : Bool) (f : Option Frame)
    (hq : QueueLimits s.access.queue) : QueueLimits (s.deliverValid sender own f).access.queue := by
  simp only [State.deliverValid]
  (repeat' split) <;> first | (simp (maxDischargeDepth := 8) [hq, State.dirTake_queueLimits, State.heard_queueLimits, State.reoffer_queueLimits, State.unitTake_queueLimits, State.windowTake_queueLimits]; done) | (simp_all (maxDischargeDepth := 8) [State.dirTake_queueLimits, State.heard_queueLimits, State.reoffer_queueLimits, State.unitTake_queueLimits, State.windowTake_queueLimits]; done)

theorem State.deliverCorrupted_queueLimits (s : State)
    (hq : QueueLimits s.access.queue) : QueueLimits s.deliverCorrupted.access.queue := by
  simp only [State.deliverCorrupted]
  (repeat' split) <;> first | (simp (maxDischargeDepth := 8) [hq, State.closeWindow_queueLimits, State.txLost_queueLimits, State.reoffer_queueLimits]; done) | (simp_all (maxDischargeDepth := 8) [State.closeWindow_queueLimits, State.txLost_queueLimits, State.reoffer_queueLimits]; done)

theorem State.releaseBehind_queueLimits (s : State)
    (hq : QueueLimits s.access.queue) : QueueLimits s.releaseBehind.access.queue := by
  simp only [State.releaseBehind]
  (repeat' split) <;> first | (simp (maxDischargeDepth := 8) [hq, State.releaseBelow_queueLimits, State.releaseAbove_queueLimits]; done) | (simp_all (maxDischargeDepth := 8) [State.releaseBelow_queueLimits, State.releaseAbove_queueLimits]; done)

theorem State.arriveOrGoOn_queueLimits (s : State)
    (hq : QueueLimits s.access.queue) : QueueLimits s.arriveOrGoOn.access.queue := by
  simp only [State.arriveOrGoOn]
  (repeat' split) <;> first | (simp (maxDischargeDepth := 8) [hq, State.updateNeed_queueLimits, State.endMove_queueLimits]; done) | (simp_all (maxDischargeDepth := 8) [State.updateNeed_queueLimits, State.endMove_queueLimits]; done)

theorem State.takeMoveStep_queueLimits (s : State)
    (hq : QueueLimits s.access.queue) : QueueLimits s.takeMoveStep.access.queue := by
  simp only [State.takeMoveStep]
  (repeat' split) <;> first | (simp (maxDischargeDepth := 8) [hq, State.reportFault_queueLimits, State.releaseBehind_queueLimits, State.arriveOrGoOn_queueLimits]; done) | (simp_all (maxDischargeDepth := 8) [State.reportFault_queueLimits, State.releaseBehind_queueLimits, State.arriveOrGoOn_queueLimits]; done)

theorem State.relocateDone_queueLimits (s : State) (p : Nat)
    (hq : QueueLimits s.access.queue) : QueueLimits (s.relocateDone p).access.queue := by
  simp only [State.relocateDone]
  (repeat' split) <;> first | (simp (maxDischargeDepth := 8) [hq, State.updateNeed_queueLimits, State.trim_queueLimits]; done) | (simp_all (maxDischargeDepth := 8) [State.updateNeed_queueLimits, State.trim_queueLimits]; done)

theorem State.takeRelocStep_queueLimits (s : State)
    (hq : QueueLimits s.access.queue) : QueueLimits s.takeRelocStep.access.queue := by
  simp only [State.takeRelocStep]
  (repeat' split) <;> first | (simp (maxDischargeDepth := 8) [hq, State.reportFault_queueLimits, State.relocateDone_queueLimits]; done) | (simp_all (maxDischargeDepth := 8) [State.reportFault_queueLimits, State.relocateDone_queueLimits]; done)

end Sys2Proof.Machine
end

