-- ==== Sys2Proof/Laws/Window.lean ====
section
/-! SUPPORT. The answer window keeps its law through every shared operation that can open, close or shrink it; the other
operations leave the window as it is (Laws/Keeps.lean). -/

namespace Sys2Proof.Machine

set_option linter.unusedTactic false
set_option linter.unreachableTactic false
set_option linter.unusedVariables false
set_option linter.unnecessarySeqFocus false
set_option linter.unusedSimpArgs false

/-- A closed window with nothing unheard keeps the law. -/
theorem WindowLaw.close (w : Window) (c : Option CloseCause) :
    WindowLaw { w with isOpen := false, unheard := [], cause := c } :=
  ⟨by simp, by simp, by simp, by simp⟩

/-- A window without one of its unheard addresses keeps the law. -/
theorem WindowLaw.filter (w : Window) (p : Addr → Bool) (h : WindowLaw w) :
    WindowLaw { w with unheard := w.unheard.filter p } := by
  obtain ⟨hn, hd, ho, hc⟩ := h
  exact ⟨hn, List.Nodup.sublist List.filter_sublist hd, fun a ha hm => ho a ha (List.mem_filter.mp hm).1,
    fun hcl => by simp [hc hcl]⟩

theorem State.becomeEvicted_windowLaw (s : State)
    (hq : WindowLaw s.access.window) : WindowLaw s.becomeEvicted.access.window := by
  simp only [State.becomeEvicted]
  simp
  exact WindowLaw.close _ _

theorem State.resolveTarget_windowLaw (s : State) (cause : CloseCause)
    (hq : WindowLaw s.access.window) : WindowLaw (s.resolveTarget cause).access.window := by
  simp only [State.resolveTarget]
  (repeat' split) <;> first | (simp (maxDischargeDepth := 8) [hq, State.becomeEvicted_windowLaw]; done) | (simp_all (maxDischargeDepth := 8) [State.becomeEvicted_windowLaw]; done)

theorem State.openWindow_windowLaw (s : State) (originator : Addr) (kind : WindowKind)
    (hq : WindowLaw s.access.window) : WindowLaw (s.openWindow originator kind).access.window := by
  refine ⟨by simp [State.openWindow], ?_, ?_, by simp [State.openWindow]⟩
  · simp only [State.openWindow, State.setAccess, unheardOf]
    exact List.Nodup.sublist List.filter_sublist (by decide)
  · intro a ha
    simp only [State.openWindow, State.setAccess, unheardOf, Option.some.injEq] at ha ⊢
    subst ha
    simp

theorem State.reportClose_windowLaw (s : State) (originator : Addr) (kind : WindowKind) (cause : CloseCause)
    (hq : WindowLaw s.access.window) : WindowLaw (s.reportClose originator kind cause).access.window := by
  simp only [State.reportClose]
  (repeat' split) <;> first | (simp (maxDischargeDepth := 8) [hq, State.resolveTarget_windowLaw]; done) | (simp_all (maxDischargeDepth := 8) [State.resolveTarget_windowLaw]; done)

theorem State.closeWindow_windowLaw (s : State) (cause : CloseCause)
    (hq : WindowLaw s.access.window) : WindowLaw (s.closeWindow cause).access.window := by
  simp only [State.closeWindow]
  split
  · exact State.reportClose_windowLaw _ _ _ _ (by simpa using WindowLaw.close _ _)
  · exact hq

theorem State.windowFrame_windowLaw (s : State) (sender : Addr) (own : Bool) (kind : WindowKind) (tag : Tag)
    (hq : WindowLaw s.access.window) : WindowLaw (s.windowFrame sender own kind tag).access.window := by
  simp only [State.windowFrame]
  (repeat' split) <;> first | (simp (maxDischargeDepth := 8) [hq, State.openWindow_windowLaw, State.closeWindow_windowLaw]; done) | (simp_all (maxDischargeDepth := 8) [State.openWindow_windowLaw, State.closeWindow_windowLaw]; done)

theorem State.heard_windowLaw (s : State) (a : Addr)
    (hq : WindowLaw s.access.window) : WindowLaw (s.heard a).access.window := by
  simp only [State.heard]
  split
  · split
    · exact State.closeWindow_windowLaw _ _ (by simpa using WindowLaw.filter _ _ hq)
    · simpa using WindowLaw.filter _ _ hq
  · exact hq

theorem State.windowTake_windowLaw (s : State) (sender : Addr) (own : Bool) (f : Option Frame)
    (hq : WindowLaw s.access.window) : WindowLaw (s.windowTake sender own f).access.window := by
  simp only [State.windowTake]
  (repeat' split) <;> first | (simp (maxDischargeDepth := 8) [hq, State.windowFrame_windowLaw]; done) | (simp_all (maxDischargeDepth := 8) [State.windowFrame_windowLaw]; done)

theorem State.deliverValid_windowLaw (s : State) (sender : Addr) (own : Bool) (f : Option Frame)
    (hq : WindowLaw s.access.window) : WindowLaw (s.deliverValid sender own f).access.window := by
  simp only [State.deliverValid]
  (repeat' split) <;> first | (simp (maxDischargeDepth := 8) [hq, State.heard_windowLaw, State.windowTake_windowLaw]; done) | (simp_all (maxDischargeDepth := 8) [State.heard_windowLaw, State.windowTake_windowLaw]; done)

theorem State.deliverCorrupted_windowLaw (s : State)
    (hq : WindowLaw s.access.window) : WindowLaw s.deliverCorrupted.access.window := by
  simp only [State.deliverCorrupted]
  (repeat' split) <;> first | (simp (maxDischargeDepth := 8) [hq, State.closeWindow_windowLaw]; done) | (simp_all (maxDischargeDepth := 8) [State.closeWindow_windowLaw]; done)

end Sys2Proof.Machine
end

