-- ==== Sys2Proof/Tests/Slice0.lean ====
section
/-! SUPPORT. Tests: the checks of WellFormed on ill-formed terms, values the spec prints, one step of commands on small states,
and for every statement with hypotheses a state and operands that meet them. -/

namespace Sys2Proof.Tests

set_option Elab.async false

open Sys2Proof Sys2Proof.Machine

/-! ### WellFormed refuses -/

theorem test_wellFormed_refuses_known_kind :
    (Instr.unknownRequest 0x42#8 ⟨0, 0, 0, 0, 0, 0, 0⟩).wellFormed = false := by decide
theorem test_wellFormed_refuses_full_cut : (Instr.cutTransaction 64).wellFormed = false := by decide
theorem test_wellFormed_refuses_presence_held :
    (Instr.presenceFrame 2 (.run 5 4) .empty .idle 0).wellFormed = false := by decide
theorem test_wellFormed_refuses_presence_occupied :
    (Instr.presenceFrame 2 .empty (.run 3 255) .idle 0).wellFormed = false := by decide
theorem test_wellFormed_refuses_claims :
    (Instr.claimFrame 2 1 3 .up false (.run 9 8) 0).wellFormed = false ∧
    (Instr.claimFrame 2 1 3 .up false .empty 0).wellFormed = false ∧
    (Instr.claimFrame 2 2 3 .up false (.run 1 1) 0).wellFormed = false := by decide
theorem test_wellFormed_refuses_grants :
    (Instr.grantFrame 2 1 3 (.run 9 8) 0).wellFormed = false ∧ (Instr.grantFrame 2 1 3 .empty 0).wellFormed = false ∧
    (Instr.grantFrame 2 2 3 (.run 1 1) 0).wellFormed = false := by decide
theorem test_wellFormed_refuses_refuse_to_itself :
    (Instr.refuseFrame 2 2 0 .held 0).wellFormed = false := by decide
theorem test_wellFormed_refuses_releases :
    (Instr.releaseFrame 2 (.run 9 8) 0).wellFormed = false ∧ (Instr.releaseFrame 2 .empty 0).wellFormed = false := by decide
theorem test_wellFormed_refuses_joins :
    (Instr.joinFrame 2 1 (.run 9 8) 0).wellFormed = false ∧ (Instr.joinFrame 2 1 .empty 0).wellFormed = false ∧
    (Instr.joinFrame 2 0 (.run 1 2) 0).wellFormed = false ∧ (Instr.joinFrame 2 5 (.run 1 2) 0).wellFormed = false := by decide
theorem test_wellFormed_refuses_recalls :
    (Instr.recallFrame 2 1 .up 255 0).wellFormed = false ∧ (Instr.recallFrame 2 2 .up 5 0).wellFormed = false := by decide
theorem test_wellFormed_refuses_evict_of_itself : (Instr.evictFrame 2 2 0).wellFormed = false := by decide
theorem test_wellFormed_refuses_undefined_lengths :
    (Instr.undefinedFrame [] 0).wellFormed = false ∧
    (Instr.undefinedFrame [0x91, 1, 2, 3, 4, 5, 6] 0).wellFormed = false := by decide
theorem test_wellFormed_admits :
    (Instr.claimFrame 2 1 3 .up false (.run 5 6) 0).wellFormed = true ∧
    (Instr.joinFrame 2 4 (.run 0 1) 0).wellFormed = true ∧ (Instr.cutTransaction 63).wellFormed = true ∧
    (Instr.undefinedFrame [0x91] 0).wellFormed = true := by decide

/-! ### Values that the spec prints -/

/-- The check value of R20: the characters 31h to 39h leave 29B1h. -/
theorem test_crc_check_value :
    crcOf [0x31, 0x32, 0x33, 0x34, 0x35, 0x36, 0x37, 0x38, 0x39] = 0x29B1#16 := by decide +kernel

/-- The register is 0 after a frame with its CRC (R20). -/
theorem test_crc_of_a_frame_is_zero : crcOf (Frame.chars 1 (.release (.run 3 4))) = 0x0000#16 := by decide +kernel

/-- CLAIM from station 1 to station 2, tag 6, UP, zones 15 to 16 (R19, R181). -/
theorem test_claim_characters :
    (Frame.chars 1 (.claim 2 6 .up false (.run 15 16))).take 5 = [0x21, 0x26, 0x01, 0x0F, 0x10] ∧
    (Frame.chars 1 (.claim 2 6 .up false (.run 15 16))).length = 7 := by decide +kernel

/-- The levels of a character on the line: start, data from the lowest bit, even parity, stop (R15). -/
theorem test_character_levels :
    characterBits 0x07#8 = [false, true, true, true, false, false, false, false, false, true, true] := by decide

/-- The relocate ranges of R7's table. -/
theorem test_relocate_ranges :
    let c := { Config.default with w := 2 }
    relocateRange c 0 .down = none ∧ relocateRange c 0 .up = some (.run 0 3) ∧
    relocateRange c 12 .down = some (.run 11 14) ∧ relocateRange c 12 .up = some (.run 12 15) ∧
    relocateRange c 236 .up = some (.run 236 239) ∧ relocateRange c 237 .up = none := by decide

/-! ### Small states -/

/-- A rail of four stations and ten zones of sixteen steps. -/
def cfg : Config := { Config.default with n := 4, z := 10, s := 16, a := 2, t := 1, stepPeriod := 50, p := 1 }

/-- The records of the peers: 0 is SILENT below, 2 is PRESENT above. -/
def peers : Vector PeerEntry 16 :=
  ((Vector.replicate 16 entryReset).set 0
      { state := .silent, held := .run 0 1, occupied := .run 0 0, mode := .idle, age := 30000 }).set 2
    { state := .present, held := .run 7 8, occupied := .run 7 7, mode := .idle, age := 400 }

/-- Station 1 JOINED in IDLE in zone 4, holding zones 4 and 5, in slot 0 after a frame of station 3. -/
def idle : State :=
  { State.reset with
    straps := { address := 1, rate := 3 }
    line := { lineReset with rx := .await }
    access := { accessReset with phase := .slotting, base := some 3, slot := some 0, busTimer := ⟨true, 22⟩ }
    dir := { entries := peers, eviction := none }
    resv := { resvReset with held := .run 4 5 }
    memb := { membReset with state := .joined, presenceTimer := ⟨true, 0⟩ }
    motion := { motionReset with state := .idle, p := 64, known := true }
    port := { cfg := cfg, response := responseReset, events := [], shiftedOut := [] } }

/-- The same station without a place on the rail. -/
def unplaced : State := idle.setMotion motionReset

/-- The same station on its way up to zone 6. -/
def moving : State :=
  idle.setMotion { motionReset with
    state := .moving, p := 64, known := true, target := some 96, direction := some .up, dirUp := true,
    stepTimer := ⟨true, 0⟩, need := some { side := .up, lo := 6, hi := 6 } }

/-- The same station relocating down from zone 5. -/
def relocating : State :=
  unplaced.setMotion { motionReset with
    state := .relocating, stepTimer := ⟨true, 0⟩,
    reloc := some { k := 5, side := .down, phase := .stepping, downTried := false, steps := 0 } }

/-- A station that is joining, its JOIN waiting. -/
def joinWaits : JoinRecord :=
  { joinRecord .waiting 1 (.run 4 5) with expectedUpper := some 2 }

/-- The part in DORMANT with a small rail configured. -/
def dormant : State :=
  { State.reset with straps := { address := 1, rate := 3 }, port := { State.reset.port with cfg := cfg } }

/-- A request with its check. -/
def req (kind a0 a1 a2 : Byte) : Request := Request.checked kind 0x77 a0 a1 a2 0 0

/-- The part after a command. -/
def after (c : Instr) (s : State) : State :=
  match exec c s with
  | .next t => t
  | .fault _ => s
  | .refused _ => s

/-- The part when a frame from a sender is judged. -/
def judged (s : State) (zone : Byte) (sender : Addr) (f : Frame) : State :=
  ((s.withZone zone).burstEnd (f.chars sender)).getD s

/-- The part when a corrupted burst is judged. -/
def spoiled (s : State) : State := ((s.withZone 0xFF).burstEndBad).getD s

/-- A window in which the addresses of a list are still unheard. -/
def awaiting (originator : Addr) (kind : WindowKind) (unheard : List Addr) : Window :=
  { isOpen := true, originator := some originator, kind := some kind, unheard := unheard, cause := none }

/-- A window open to the answers of stations 2 and 3. -/
def openTo (originator : Addr) (kind : WindowKind) : Window :=
  awaiting originator kind [2, 3]

/-- The part with a window. -/
def withWindow (s : State) (w : Window) : State := s.setAccess { s.access with window := w }

/-- The part at the boundary at which a window of this station's view closes COMPLETE. -/
def closing (s : State) (originator : Addr) (kind : WindowKind) : State :=
  s.setAccess { s.access with
    phase := .slotting, base := some 3, slot := some 2, window := awaiting originator kind [2] }

/-- The part in the settle gap before its own slot, with a queue. -/
def onTurn (s : State) (queue : List QEntry) : State :=
  s.setAccess { s.access with phase := .settle, base := some 0, slot := none, busTimer := ⟨true, 11⟩, queue := queue }

/-- A claim of zone 6 that waits with tag 0 for its addressee, station 2. -/
def claimWaits : ClaimRecord :=
  { freshClaim with phase := .waiting, tag := some 0, side := some .up, requested := .run 6 6, addressee := some 2 }

/-- The moving station with its claim waiting. -/
def claiming : State :=
  (moving.setResv { moving.resv with claim := some claimWaits, tagCounter := 0, attemptSide := some .up }).setAccess
    { moving.access with window := openTo 1 .claim, ownWindow := true }

/-- The joining station with its JOIN waiting. -/
def joining : State :=
  ((idle.setMotion motionReset).setResv resvReset |>.setMemb
    { membReset with state := .joining, join := some joinWaits }).setAccess
      { idle.access with window := openTo 1 .join, ownWindow := true }

/-- The station whose eviction of station 0 is under way. -/
def evicting : State :=
  withWindow ((idle.dirEvict 0).setMemb
    { idle.memb with evict := some { target := 0, waiting := true, aliveHeard := false } }) (openTo 1 .evict)

/-- The station as the target of an eviction that station 2 has ordered, its objection sent or not. -/
def targeted (sent : Bool) : State :=
  withWindow (idle.setMemb { idle.memb with target := some ⟨2, sent⟩ }) (openTo 2 .evict)

/-- A claim of zone 4, granted, of a relocate from zone 5 that lacks it. -/
def grantedDown : ClaimRecord :=
  { claimWaits with side := some .down, requested := .run 4 4, addressee := some 0, grant := some (.run 4 4) }

/-- The station that waits in CLAIMING for zone 4, relocating down from zone 5, with a claim. -/
def relocateClaims (r : ClaimRecord) (attempt : Nat) : State :=
  (claiming.setMotion { motionReset with
    state := .relocating, need := some { side := .down, lo := 4, hi := 4 },
    reloc := some { k := 5, side := .down, phase := .claiming, downTried := false, steps := 0 } }).setResv
      { claiming.resv with held := .run 5 6, claim := some r, attempt := attempt, attemptSide := some .down }

/-- The part at the instant a command brings, with its queue as it was: what the command leaves where nothing is sent. -/
def instant (c : Instr) (s : State) : State :=
  let t := after c (s.setAccess { s.access with queue := [] })
  t.setAccess { t.access with queue := s.access.queue }

/-- The part in QUIET, with a queue. -/
def quiet (s : State) (queue : List QEntry) : State :=
  s.setAccess { s.access with phase := .quiet, base := some 3, slot := none, busTimer := ⟨false, 0⟩, queue := queue }

/-- The part while a frame of its own is on the line, its first character under way. -/
def sending (s : State) (e : QEntry) (f : Frame) : State := s.transmit e f

/-! ### One step of a command -/

theorem test_reset_answers_nop :
    (after (.nop (req 0x00 0 0 0)) State.reset).port.response.bytes = [0x77, 0x00, 0x01, 0, 0, 0, 0, 0x88] := by
  decide +kernel
theorem test_take_event_after_reset :
    (after (.takeEvent (req 0x42 0 0 0)) State.reset).port.events = [] := by decide +kernel
theorem test_move_begins :
    let t := after (.move (req 0x20 0 0 96)) idle
    t.motion.state = .moving ∧ t.motion.need = some { side := .up, lo := 6, hi := 6 } ∧
    t.access.queue = [claimEntry] := by decide +kernel
theorem test_step_up :
    let t := after (.stepEvent 0x04) moving
    t.motion.p = 65 ∧ t.motion.stepHigh = true ∧ t.motion.mismatch = 0 := by decide +kernel
theorem test_claim_is_granted_to_a_neighbour :
    let t := after (.claimFrame 2 1 6 .down false (.run 6 6) 0xFF) idle
    t.access.queue = [answerEntry (.grant 2 6 (.run 6 6)) { originator := 2, kind := .claim }] ∧
    t.access.window.isOpen = true := by decide +kernel
theorem test_intruder_latches :
    let t := after (.presenceFrame 2 (.run 4 8) (.run 5 5) .idle 0xFF) idle
    t.fault.cause = some .intrusion ∧ t.motion.state = .halted ∧ (t.entry 2).held = .run 6 8 := by decide +kernel
theorem test_relocate_sees_the_boundary :
    let t := after (.relocateStepEvent 0x04) relocating
    t.motion.p = 79 ∧ t.motion.state = .idle ∧ t.resv.held = .run 4 5 := by decide +kernel
theorem test_step_runs_from_the_queue :
    (match step (State.reset.setPending [.pinReset, .activity]) with
      | .next t => t.pending == [.activity] && t.fault.phase == .pin
      | _ => false) = true := by decide +kernel

/-- The driver takes the line dominant in the bit times of value 0 alone (R13): the start bit and the data of 11h. -/
theorem test_driver_level_follows_the_bits :
    let s := sending idle presenceEntry idle.presenceFields
    s.driving = true ∧ (s.advance (bitTime 3)).driving = false ∧ (s.advance (2 * bitTime 3)).driving = true ∧
    (s.advance (10 * bitTime 3)).driving = false ∧ idle.driving = false ∧ s.driverLevels.length = 88 := by decide +kernel
/-- The characters of an own frame follow one another with no idle time: the second takes 1 C from the first's stop bit,
whatever of it has run before its start bit is confirmed (R23). -/
theorem test_own_characters_leave_no_idle_time :
    let s := after (.characterReceived 0x11 false true) (sending idle presenceEntry idle.presenceFields)
    let t := after .activity (s.advance 4)
    s.line.rx = .gap ∧ s.sending = true ∧ t.line.rx = .char ∧ t.line.lineTimer = ⟨true, 4⟩ ∧
    (after (.characterReceived 0x04 true true) t).memb.presenceTimer = ⟨true, 22⟩ ∧
    (after .activity ((after (.characterReceived 0x12 false true) (after .activity idle)).advance 4)).line.lineTimer =
      ⟨true, 0⟩ := by decide +kernel
/-- A spoiled character of the station's own is a mismatch, another one is bad; each is counted (R15, R24). -/
theorem test_spoiled_character :
    (sending idle presenceEntry idle.presenceFields).spoilChar.line.burst =
      some { chars := [], count := 1, bad := false, own := true, mismatch := true } ∧
    (after .activity idle).spoilChar.line.burst =
      some { chars := [], count := 1, bad := true, own := false, mismatch := false } ∧
    (sending idle presenceEntry idle.presenceFields).spoilChar.line.txChars = [] := by decide +kernel
/-- CONFLICT names the lowest zone of H announced, whichever part is written (R52). -/
theorem test_clip_removes_from_H :
    clip (.run 4 5) (.run 3 8) (.run 7 7) = .run 6 8 ∧ clipRemoved (.run 4 5) (.run 3 8) = some 4 ∧
    clip (.run 4 5) (.run 3 8) (.run 3 3) = .run 3 3 ∧ clipRemoved (.run 4 5) (.run 6 8) = none := by decide
/-- A REFUSE(ALIVE) with a tag other than 0 objects to nothing (R181). -/
theorem test_alive_with_a_tag_is_passed_over :
    (after (.refuseFrame 0 1 5 .alive 0xFF) evicting).dir.eviction.map (·.aliveHeard) = some false ∧
    (after (.refuseFrame 0 1 0 .alive 0xFF) evicting).dir.eviction.map (·.aliveHeard) = some true := by decide +kernel
/-- The bits of a transaction, kind byte first, most significant bit first (R144, R182). -/
theorem test_transaction_decodes :
    decodeTransaction ([0x20, 0x77, 0x01, 0x02, 0x03, 0, 0, 0x63].flatMap bitsMsbFirst) 9 1 3 =
      .move { seq := 0x77, arg0 := 0x01, arg1 := 0x02, arg2 := 0x03, arg3 := 0, arg4 := 0, check := 0x63 } ∧
    decodeRequest 0x3F (req 0x3F 0 0 0) 9 1 3 = .resetStation (req 0x3F 0 0 0) 1 3 ∧
    decodeRequest 0x22 (req 0x22 0 0 0) 9 1 3 = .relocate (req 0x22 0 0 0) 9 ∧
    decodeRequest 0x43 (req 0x43 0 0 0) 9 1 3 = .unknownRequest 0x43 (req 0x43 0 0 0) ∧
    decodeTransaction [true, false] 9 1 3 = .cutTransaction 2 := by decide +kernel
/-- The power-on time does not run before the supply is back (R185). -/
theorem test_power_on_time_waits_for_the_supply :
    let t := after .powerOnReset idle
    t.fault.powerOnTimer = ⟨false, 0⟩ ∧ (t.advance 30000).fault.powerOnTimer = ⟨false, 0⟩ ∧
    t.supplyEntersRange.fault.powerOnTimer = ⟨true, 0⟩ := by decide +kernel

/-! ### Statements with hypotheses: what meets them -/

theorem witness_EmptyQueueLetsOneMicrosecondPass :
    idle.pending = [] ∧ idle.memb.presenceTimer.running = true ∧ idle.motion.stepTimer.running = false ∧
    idle.memb.state = .joined ∧ (0 : Addr) ≠ idle.straps.address ∧ (0 : Addr).val < idle.port.cfg.n := by decide
theorem witness_EveryResetEndsInTheResetState :
    EndsReset (after .powerOnReset idle) (.powerOnTimeExpiry 7 2) .powerOn 7 2 ∧
    EndsReset (after .pinReset idle) (.pinResetRelease 0 0) .pin 0 0 ∧
    EndsReset (idle.setFault { idle.fault with phase := .powerOn true true }) (.pinResetRelease 15 3) .powerOn 15 3 ∧
    EndsReset idle (.resetStation (req 0x3F 0 0 0) 15 1) .ordered 15 1 := by
  unfold EndsReset State.takes; decide +kernel
theorem witness_ResetThatBeginsHoldsThePart :
    BeginsReset idle .powerOnReset ∧ BeginsReset idle .pinReset ∧
    (after .powerOnReset idle).fault.phase = .powerOn false false ∧
    (after .pinReset (after .powerOnReset idle)).fault.phase = .powerOn true false ∧
    (after .pinReset idle).fault.phase = .pin ∧ BeginsReset (after .pinReset idle) .powerOnReset := by
  unfold BeginsReset; decide +kernel
theorem witness_NopAnswersAndChangesNoBlock : idle.takes 0x00 (req 0x00 0 0 0) := by
  unfold State.takes; decide +kernel
theorem witness_BadCheckAndUnknownKindHaveNoEffect :
    (Instr.nop ⟨1, 0, 0, 0, 0, 0, 0⟩).request = some (0x00#8, ⟨1, 0, 0, 0, 0, 0, 0⟩) ∧ idle.inReset = false ∧
    (0x00#8 + 1 + 0 + 0 + 0 + 0 + 0 + 0 : Byte) ≠ 0x00#8 ∧
    requestKinds.contains 0x55#8 = false ∧ idle.takes 0x55 (req 0x55 0 0 0) := by
  unfold State.takes; decide +kernel
theorem witness_TransactionsWithoutARequestLeaveTheResponse :
    idle.inReset = false ∧ 63 ≠ 64 ∧ 65 ≠ 64 ∧ 0 ≠ 64 ∧ (after .pinReset idle).inReset = true ∧
    (Instr.stop (req 0x21 0 0 0)).request = some (0x21#8, req 0x21 0 0 0) := by decide +kernel
theorem witness_ConfigureWritesOneValueInDormant :
    dormant.takes 0x10 (req 0x10 0 0 2) ∧ dormant.memb.state = .dormant ∧ idle.memb.state ≠ .dormant ∧
    (∃ q, q ∈ (configRange 0).toList ∧ q.1 ≤ 2 ∧ 2 ≤ q.2) ∧ (∃ q, q ∈ (configRange 0).toList ∧ q.1 ≤ 16 ∧ 16 ≤ q.2) ∧
    (∃ q, q ∈ (configRange 0).toList ∧ ¬ (q.1 ≤ 17 ∧ 17 ≤ q.2)) ∧ configRange 9 = some (0, 1) ∧ 10 ≤ 10 := by
  unfold State.takes; decide +kernel
theorem witness_StartLeavesDormantOrDetached :
    dormant.takes 0x11 (req 0x11 0 0 0) ∧ dormant.memb.state = .dormant ∧
    dormant.straps.address.val < dormant.port.cfg.n ∧ dormant.port.cfg.w ≤ dormant.port.cfg.z - 2 ∧
    State.reset.port.cfg.n - 1 ≤ State.reset.straps.address.val ∧
    (dormant.setStraps ⟨4, 0⟩).port.cfg.n ≤ (dormant.setStraps ⟨4, 0⟩).straps.address.val ∧
    (idle.setMemb { idle.memb with state := .detached }).memb.state = .detached ∧ idle.memb.state = .joined := by
  unfold State.takes; decide +kernel
theorem witness_MoveIsRefusedInTheOrderOfItsTests :
    idle.takes 0x20 (req 0x20 0 0 145) ∧ maxPosition cfg = 144 ∧ (req 0x20 0 0 145).target20 = 145 ∧
    (req 0x20 0 0 144).target20 = 144 ∧ dormant.memb.state ≠ .joined ∧ unplaced.memb.state = .joined ∧
    unplaced.motion.state = .unplaced ∧ relocating.motion.state = .relocating := by
  unfold State.takes; decide +kernel
theorem witness_MoveBeginsAMoveFromIdle :
    idle.takes 0x20 (req 0x20 0 0 64) ∧ idle.memb.state = .joined ∧ idle.motion.state = .idle ∧
    (req 0x20 0 0 64).target20 = idle.motion.p ∧ (req 0x20 0 0 144).target20 ≤ maxPosition idle.port.cfg ∧
    (req 0x20 0 0 144).target20 ≠ idle.motion.p := by
  unfold State.takes; decide +kernel
theorem witness_MoveRetargetsARunningMove :
    moving.takes 0x20 (req 0x20 0 0 65) ∧ moving.memb.state = .joined ∧ moving.motion.state = .moving ∧
    (req 0x20 0 0 65).target20 ≤ maxPosition moving.port.cfg ∧ moving.motion.p < (req 0x20 0 0 65).target20 ∧
    moving.motion.direction = some .up ∧ (req 0x20 0 0 64).target20 = moving.motion.p ∧
    (req 0x20 0 0 63).target20 < moving.motion.p := by
  unfold State.takes; decide +kernel
theorem witness_StopEndsWhatTheEngineIsDoing :
    idle.takes 0x21 (req 0x21 0 0 0) ∧ idle.motion.state = .idle ∧ moving.motion.state = .moving ∧
    relocating.motion.state = .relocating ∧ relocating.motion.reloc.isSome = true := by
  unfold State.takes; decide +kernel
theorem witness_RelocateIsRefusedInTheOrderOfItsTests :
    idle.takes 0x22 (req 0x22 0 0 0) ∧ dormant.memb.state ≠ .joined ∧ idle.motion.state = .idle ∧
    moving.motion.state = .moving ∧ unplaced.memb.state = .joined ∧ unplaced.motion.state = .unplaced ∧
    unplaced.port.cfg.z ≤ (0x0A#8).toNat := by
  unfold State.takes; decide +kernel
theorem witness_RelocateBeginsFromTheZoneRead :
    unplaced.takes 0x22 (req 0x22 0 0 0) ∧ unplaced.memb.state = .joined ∧ unplaced.motion.state = .unplaced ∧
    (0x09#8).toNat < unplaced.port.cfg.z ∧ (ZRange.run 9 9).inside (.run 4 5) = false ∧
    (ZRange.run 4 5).inside (.run 4 5) = true ∧ (ZRange.run 3 5).inside (.run 4 5) = false ∧
    (ZRange.run 4 6).inside (.run 4 6) = true ∧ (ZRange.run 0 1).inside (.run 0 2) = true ∧
    (ZRange.run 0 2).inside (.run 0 2) = true ∧ (ZRange.run 0 2).inside (.run 0 1) = false ∧
    unplaced.port.cfg.w + 1 < unplaced.port.cfg.z ∧ unplaced.access.phase ≠ .quiet ∧
    ({ cfg with z := 8, w := 7 } : Config).z ≤ ({ cfg with z := 8, w := 7 } : Config).w + 1 := by
  unfold State.takes; decide +kernel
theorem witness_EvictOrdersAnEvictionOfASilentPeer :
    idle.takes 0x30 (req 0x30 0 0 0) ∧ idle.port.cfg.n ≤ (req 0x30 4 0 0).arg0.toNat ∧
    (req 0x30 0 0 0).arg0.toNat = (0 : Addr).val ∧ (0 : Addr).val < idle.port.cfg.n ∧
    (0 : Addr).val ≠ idle.straps.address.val ∧ idle.memb.state = .joined ∧ (idle.entry 0).state = .silent ∧
    (idle.entry 2).state ≠ .silent ∧ idle.memb.evict = none ∧
    (offerTo idle.access.queue (evictEntry 0)).2 ≠ .notQueued ∧
    (offerTo (List.replicate 8 (releaseEntry (.run 0 0) .up)) (evictEntry 0)).2 = .notQueued := by
  unfold State.takes; decide +kernel
theorem witness_ClearFaultClearsTheLatch :
    let t := after (.presenceFrame 2 (.run 4 8) (.run 5 5) .idle 0xFF) idle
    t.takes 0x31 (req 0x31 0 0 0) ∧ idle.fault.cause = none ∧ t.fault.cause = some .intrusion ∧
    t.motion.state = .halted ∧ t.motion.known = true := by
  unfold State.takes; decide +kernel
theorem witness_ReadStatusReportsTheState :
    idle.takes 0x40 (req 0x40 0 0 0) ∧ (req 0x40 1 0 0).arg0 = 0x01#8 ∧ (req 0x40 2 0 0).arg0 ≠ 0x01#8 := by
  unfold State.takes; decide +kernel
theorem witness_ReadPeerReportsOneEntry :
    idle.takes 0x41 (req 0x41 3 1 0) ∧ (req 0x41 3 1 0).arg0.toNat = (3 : Addr).val ∧
    (3 : Addr).val < idle.port.cfg.n ∧ (3 : Addr) ≠ idle.straps.address ∧
    idle.port.cfg.n ≤ (req 0x41 4 0 0).arg0.toNat ∧ 1 < (req 0x41 3 2 0).arg1.toNat := by
  unfold State.takes; decide +kernel
theorem witness_TakeEventRemovesTheOldestRecord :
    State.reset.takes 0x42 (req 0x42 0 0 0) ∧ State.reset.port.events = .resetDone .powerOn :: [] ∧
    idle.port.events = [] := by
  unfold State.takes; decide +kernel
theorem witness_LineEventsDriveTheReceiver :
    let own := after (.characterReceived 0x11 false true) (sending idle presenceEntry idle.presenceFields)
    let other := after (.characterReceived 0x12 false true) (after .activity idle)
    idle.line.rx = .await ∧ (after .activity idle).line.rx = .char ∧ other.line.rx = .gap ∧ other.sending = false ∧
    own.line.rx = .gap ∧ own.sending = true ∧
    (after (.characterReceived 0x12 false false) (after .activity idle)).line.rx = .low ∧
    (after (.start (req 0x11 0 0 0) 0xFF) dormant).line.rx = .seek ∧ dormant.line.rx = .off := by decide +kernel
theorem witness_CharactersFillTheBurstRecord :
    let t := after .activity idle
    let u := sending idle presenceEntry idle.presenceFields
    t.line.burst.isSome = true ∧ t.line.rx = .char ∧ t.line.txChars = [] ∧ u.ownBurst = true ∧ u.line.txChars ≠ [] := by
  decide +kernel
theorem witness_BurstIsCorruptedOnSixConditions :
    let b : Burst := { chars := Frame.chars 2 (.evict 0), count := 4, bad := false, own := false, mismatch := false }
    b.chars.head? = some 0x82#8 ∧ judgeBurst cfg 1 b 0x0000#16 = .valid 2 false (some (.evict 0)) ∧
    judgeBurst cfg 2 b 0x0000#16 = .corrupted ∧ judgeBurst cfg 1 { b with count := 5 } 0x0000#16 = .corrupted := by
  decide +kernel
theorem witness_EveryLegalFrameIsJudgedAsItself :
    cfg.z ≤ 240 ∧ (3 : Addr).val < cfg.n ∧ (Frame.presence .empty (.run 9 9) .halted).legal cfg.n cfg.z 3 = true ∧
    (Frame.claim 0 15 .down true (.run 0 9)).legal cfg.n cfg.z 3 = true ∧
    (Frame.join 4 (.run 9 9)).legal cfg.n cfg.z 3 = true ∧ (Frame.recall 2 .up 9).legal cfg.n cfg.z 3 = true ∧
    (Frame.grant 0 0 (.run 0 0)).legal cfg.n cfg.z 3 = true ∧ (Frame.refuse 2 15 .alive).legal cfg.n cfg.z 3 = true ∧
    (Frame.release (.run 0 9)).legal cfg.n cfg.z 3 = true ∧ (Frame.evict 2).legal cfg.n cfg.z 3 = true := by
  decide +kernel
theorem witness_LegalFrameArrivesAtAWaitingReceiver :
    idle.line.rx = .await ∧ idle.port.cfg.z ≤ 240 ∧ (3 : Addr).val < idle.port.cfg.n ∧
    (3 : Addr) ≠ idle.straps.address ∧ (Frame.evict 2).legal idle.port.cfg.n idle.port.cfg.z 3 = true ∧
    dormant.line.rx = .off := by decide +kernel
theorem witness_PresenceUpdatesTheSendersEntry :
    let f := Frame.presence (.run 4 8) (.run 5 5) .idle
    let g := Frame.presence (.run 6 8) (.run 7 7) .idle
    let s := moving.waitRearm [2]
    idle.burstIs 0xFF 2 false f (judged idle 0xFF 2 f) ∧ (judged idle 0xFF 2 f).access.window.unclosedBy 2 ∧
    (idle.entry 2).state ≠ .evicting ∧ (ZRange.run 5 5).overlaps idle.resv.held = true ∧ 2 ∉ idle.fault.intruders ∧
    evicting.burstIs 0xFF 0 false f (judged evicting 0xFF 0 f) ∧
    (judged evicting 0xFF 0 f).access.window.unclosedBy 0 ∧ ((judged evicting 0xFF 0 f).entry 0).state = .evicting ∧
    s.burstIs 0xFF 2 false g (judged s 0xFF 2 g) ∧ (judged s 0xFF 2 g).access.window.unclosedBy 2 ∧
    (ZRange.run 7 7).overlaps s.resv.held = false ∧ (s.entry 2).held ≠ clip s.resv.held (.run 6 8) (.run 7 7) ∧
    s.resv.rearm.waiting = true ∧ s.resv.rearm.watched = [2] ∧ s.motion.need.isSome = true ∧
    s.claimInFlight = false ∧ s.memb.state = .joined := by
  unfold State.burstIs Window.unclosedBy Window.staysOpen; decide +kernel
/-- Ranges told over H from both sides, from one, and from none. -/
theorem witness_PresenceUpdatesTheSendersEntry_clip :
    (ZRange.run 3 8).overlaps (.run 4 5) = true ∧ 3 < 4 ∧ 5 < 8 ∧ 5 < 7 ∧ ¬ 5 < 3 ∧
    (ZRange.run 4 5).overlaps (.run 4 5) = true ∧ (ZRange.run 3 5).overlaps (.run 4 5) = true ∧
    (ZRange.run 4 8).overlaps (.run 4 5) = true ∧ (ZRange.run 6 8).overlaps (.run 4 5) = false := by decide
/-- A second intrusion of a station whose first is latched. -/
theorem witness_PresenceUpdatesTheSendersEntry_repeated :
    let f := Frame.presence (.run 4 8) (.run 5 5) .idle
    let s := idle.reportFault (.intrusion 2)
    s.burstIs 0xFF 2 false f (judged s 0xFF 2 f) ∧ (judged s 0xFF 2 f).access.window.unclosedBy 2 ∧
    2 ∈ (judged s 0xFF 2 f).fault.intruders ∧ LatchLaw (judged s 0xFF 2 f).fault := by
  refine ⟨?_, ?_, ?_, ?_, ?_⟩
  · unfold State.burstIs; decide +kernel
  · unfold Window.unclosedBy Window.staysOpen; decide +kernel
  · decide +kernel
  · decide +kernel
  · decide +kernel
theorem witness_ClaimOpensAWindowAndIsAnswered :
    let f := Frame.claim 1 6 .down false (.run 5 6)
    let s1 := judged idle 0x05 2 f
    idle.burstIs 0x05 2 false f s1 ∧ s1.access.window.isOpen = false ∧ s1.access.queue.length ≤ 4 ∧
    s1.memb.state = .joined ∧ (s1.entry 2).state = .present ∧ (s1.entry 3).state = .absent ∧
    (s1.entry 2).held.above s1.resv.held = true ∧ (s1.entry 2).held.below s1.resv.held = false ∧
    (ZRange.run 5 6).below s1.resv.held = false ∧ s1.between s1.resv.held (s1.entry 2).held 2 = [] ∧
    (ZRange.run 5 6).leadingPart .up (fun z => !s1.resv.held.has z) = .run 6 6 ∧
    (ZRange.run 5 5).leadingPart .up (fun z => !s1.resv.held.has z) = .empty ∧
    (ZRange.run 5 6).overlaps s1.resv.held = true ∧ (ZRange.run 6 6).overlaps s1.resv.held = false ∧
    (0x05#8).toNat < s1.port.cfg.z ∧ (ZRange.run 5 6).overlaps (.run 6 6) = true := by
  unfold State.burstIs; decide +kernel
/-- Stations whose own claim for zone 6 waits for its handover, and for its window's close. -/
theorem witness_ClaimOpensAWindowAndIsAnswered_pending :
    let f := Frame.claim 1 6 .down false (.run 5 6)
    let s := moving.setResv { moving.resv with claim := some freshClaim }
    let t := withWindow claiming windowReset
    s.burstIs 0x05 2 false f (judged s 0x05 2 f) ∧ (judged s 0x05 2 f).resv.claim = some freshClaim ∧
    (judged s 0x05 2 f).motion.need = some { side := .up, lo := 6, hi := 6 } ∧ (judged s 0x05 2 f).taken 6 = false ∧
    (judged s 0x05 2 f).neighbour s.resv.held .up = some 2 ∧
    t.burstIs 0x05 2 false f (judged t 0x05 2 f) ∧ (judged t 0x05 2 f).resv.claim = some claimWaits ∧
    claimWaits.requested = .run 6 6 ∧ t.access.window.isOpen = false := by
  unfold State.burstIs; decide +kernel
theorem witness_SupersedingFrameIsAnsweredWithOverlap :
    let f := Frame.claim 1 6 .down false (.run 5 6)
    let s1 := judged claiming 0xFF 2 f
    let s2 := judged joining 0xFF 2 f
    let s3 := judged evicting 0xFF 2 f
    claiming.burstIs 0xFF 2 false f s1 ∧ s1.access.window = openTo 1 .claim ∧ s1.straps.address = 1 ∧
    opensWindow f = some (.claim, 6) ∧ s1.memb.state = .joined ∧ s1.memb.join = none ∧ s1.access.queue.length ≤ 3 ∧
    s1.claimWaiting = true ∧ s1.awaitsClaim claimWaits .up ∧
    joining.burstIs 0xFF 2 false f s2 ∧ s2.access.window = openTo 1 .join ∧ s2.memb.state = .joining ∧
    s2.memb.join = some joinWaits ∧ joinWaits.phase = .waiting ∧ joinWaits.attempt < 4 ∧ s2.access.queue.length ≤ 3 ∧
    evicting.burstIs 0xFF 2 false f s3 ∧ s3.access.window = openTo 1 .evict ∧
    s3.dir.eviction = some { target := 0, returnState := .silent, aliveHeard := false } ∧
    s3.memb.evict = some { target := 0, waiting := true, aliveHeard := false } ∧ s3.access.queue.length ≤ 3 := by
  unfold State.burstIs State.awaitsClaim; decide +kernel
theorem witness_GrantIsRecorded :
    let f := Frame.grant 1 0 (.run 6 6)
    let g := Frame.grant 3 0 (.run 6 6)
    let s1 := judged claiming 0xFF 2 f
    claiming.burstIs 0xFF 2 false f s1 ∧ s1.access.window.unclosedBy 2 ∧ s1.resv.claim = some claimWaits ∧
    claimWaits.grant = none ∧ s1.ownOpen .claim = true ∧
    claiming.burstIs 0xFF 2 false g (judged claiming 0xFF 2 g) ∧
    (judged claiming 0xFF 2 g).access.window.unclosedBy 2 ∧ (3 : Addr) ≠ claiming.straps.address ∧
    ((judged claiming 0xFF 2 g).entry 3).state ≠ .evicting := by
  unfold State.burstIs Window.unclosedBy Window.staysOpen; decide +kernel
/-- A station without a claim, and a claimant that is EVICTING. -/
theorem witness_GrantIsRecorded_without_a_claim :
    let f := Frame.grant 1 0 (.run 6 6)
    let h := Frame.grant 0 0 (.run 2 3)
    idle.burstIs 0xFF 2 false f (judged idle 0xFF 2 f) ∧ (judged idle 0xFF 2 f).resv.claim = none ∧
    (judged idle 0xFF 2 f).access.window.unclosedBy 2 ∧
    evicting.burstIs 0xFF 2 false h (judged evicting 0xFF 2 h) ∧
    (judged evicting 0xFF 2 h).access.window.unclosedBy 2 ∧
    ((judged evicting 0xFF 2 h).entry 0).state = .evicting := by
  unfold State.burstIs Window.unclosedBy Window.staysOpen; decide +kernel
/-- The last answer of the window. -/
theorem witness_GrantIsRecorded_last :
    let f := Frame.grant 1 0 (.run 6 6)
    let s := withWindow claiming (awaiting 1 .claim [2])
    s.burstIs 0xFF 2 false f (judged s 0xFF 2 f) ∧ (judged s 0xFF 2 f).access.window.closedBy 2 ∧
    (judged s 0xFF 2 f).resv.claim = some claimWaits ∧ claimWaits.refusal = none ∧ claimWaits.inconclusive = false ∧
    claimWaits.orphaned = false ∧ claimWaits.side = some .up ∧ (judged s 0xFF 2 f).overlapping (.run 6 6) = [] ∧
    (ZRange.run 6 6).adjacent s.resv.held .up = true := by
  unfold State.burstIs Window.closedBy; decide +kernel
theorem witness_RefuseIsRecorded :
    let f := Frame.refuse 1 0 .held
    let g := Frame.refuse 1 0 .alive
    let h := Frame.refuse 1 5 .alive
    let s1 := judged claiming 0xFF 2 f
    let s2 := judged joining 0xFF 2 f
    claiming.burstIs 0xFF 2 false f s1 ∧ s1.access.window.unclosedBy 2 ∧ s1.resv.claim = some claimWaits ∧
    claimWaits.tag = some 0 ∧ claimWaits.refusal = none ∧ s1.ownOpen .claim = true ∧
    joining.burstIs 0xFF 2 false f s2 ∧ s2.access.window.unclosedBy 2 ∧ s2.memb.join = some joinWaits ∧
    joinWaits.phase = .waiting ∧ s2.ownOpen .join = true ∧
    evicting.burstIs 0xFF 0 false g (judged evicting 0xFF 0 g) ∧
    (judged evicting 0xFF 0 g).access.window.unclosedBy 0 ∧ (judged evicting 0xFF 0 g).ownOpen .evict = true ∧
    evicting.dir.eviction = some { target := 0, returnState := .silent, aliveHeard := false } ∧
    evicting.memb.evict = some { target := 0, waiting := true, aliveHeard := false } ∧
    evicting.burstIs 0xFF 0 false h (judged evicting 0xFF 0 h) := by
  unfold State.burstIs Window.unclosedBy Window.staysOpen; decide +kernel
/-- The last answer of a window. -/
theorem witness_RefuseIsRecorded_last :
    let f := Frame.refuse 1 0 .held
    let g := Frame.refuse 1 0 .alive
    let s := withWindow claiming (awaiting 1 .claim [2])
    let t := withWindow evicting (awaiting 1 .evict [0])
    s.burstIs 0xFF 2 false f (judged s 0xFF 2 f) ∧ (judged s 0xFF 2 f).access.window.closedBy 2 ∧
    (judged s 0xFF 2 f).awaitsClaim claimWaits .up ∧ claimWaits.inconclusive = false ∧ claimWaits.orphaned = false ∧
    s.resv.attempt < 4 ∧ s.access.queue.length ≤ 4 ∧
    t.burstIs 0xFF 0 false g (judged t 0xFF 0 g) ∧ (judged t 0xFF 0 g).access.window.closedBy 0 ∧
    t.access.queue.length ≤ 4 ∧ (∀ y, y ∈ (judged t 0xFF 0 g).dir.eviction.toList → y.target = 0) ∧
    (judged t 0xFF 0 g).memb.evict = some { target := 0, waiting := true, aliveHeard := false } := by
  unfold State.burstIs Window.closedBy State.awaitsClaim; decide +kernel
theorem witness_ReleaseShrinksTheSendersEntry :
    let f := Frame.release (.run 8 8)
    idle.burstIs 0xFF 2 false f (judged idle 0xFF 2 f) ∧ (judged idle 0xFF 2 f).access.window.unclosedBy 2 := by
  unfold State.burstIs Window.unclosedBy Window.staysOpen; decide +kernel
theorem witness_JoinIsRecordedAndAnswered :
    let f := Frame.join 1 (.run 6 7)
    let g := Frame.join 4 (.run 5 6)
    idle.burstIs 0xFF 2 false f (judged idle 0xFF 2 f) ∧ idle.access.window.isOpen = false ∧
    (idle.entry 2).state ≠ .evicting ∧ idle.access.queue.length ≤ 4 ∧
    (judged idle 0xFF 2 f).resv.held = .run 4 5 ∧ (judged idle 0xFF 2 f).between (.run 4 5) (.run 6 7) 2 = [] ∧
    (judged idle 0xFF 0 f).between (.run 2 3) (.run 4 5) 0 = [] ∧ (ZRange.run 5 6).overlaps (.run 4 5) = true ∧
    idle.burstIs 0xFF 3 false g (judged idle 0xFF 3 g) ∧ idle.memb.state = .joined := by
  unfold State.burstIs; decide +kernel
theorem witness_RecallBoundsTheJoin :
    let f := Frame.recall 1 .up 5
    let g := Frame.recall 1 .down 4
    let s1 := judged joining 0xFF 2 f
    let last := withWindow joining (awaiting 1 .join [2])
    joining.burstIs 0xFF 2 false f s1 ∧ s1.access.window.unclosedBy 2 ∧ s1.memb.join = some joinWaits ∧
    joinWaits.occupied = .run 4 5 ∧ joinWaits.phase = .waiting ∧ s1.ownOpen .join = true ∧ 5 ≤ 5 ∧ 4 ≤ 4 ∧
    joining.burstIs 0xFF 2 false g (judged joining 0xFF 2 g) ∧
    last.burstIs 0xFF 2 false f (judged last 0xFF 2 f) ∧ (judged last 0xFF 2 f).access.window.closedBy 2 ∧
    joinWaits.intrusion = none ∧ joinWaits.overlap = false ∧ joinWaits.expectedUpper = some 2 ∧
    joinWaits.expectedLower = none ∧ (judged last 0xFF 2 f).overlapping (.run 4 5) = [] := by
  unfold State.burstIs Window.unclosedBy Window.closedBy Window.staysOpen; decide +kernel
theorem witness_EvictMarksItsTarget :
    idle.burstIs 0xFF 3 false (.evict 0) (judged idle 0xFF 3 (.evict 0)) ∧ idle.access.window.isOpen = false ∧
    idle.burstIs 0xFF 3 false (.evict 1) (judged idle 0xFF 3 (.evict 1)) ∧ (1 : Addr) = idle.straps.address ∧
    idle.access.queue.length ≤ 4 ∧ idle.memb.state = .joined := by
  unfold State.burstIs; decide +kernel
theorem witness_UndefinedFrameOnlyIsHeard :
    let end92 := fun (s : State) => (((s.withZone 0xFF).burstEnd (withCrc [0x92])).getD s)
    let s := withWindow idle (awaiting 3 .claim [2])
    let t := withWindow claiming (awaiting 1 .claim [2])
    (idle.withZone 0xFF).burstEnd (withCrc [0x92]) = some (end92 idle) ∧
    (end92 idle).judgement = some (.valid 2 false none) ∧ (end92 idle).access.window.unclosedBy 2 ∧
    (s.withZone 0xFF).burstEnd (withCrc [0x92]) = some (end92 s) ∧
    (end92 s).judgement = some (.valid 2 false none) ∧ (end92 s).access.window.closedBy 2 ∧
    (t.withZone 0xFF).burstEnd (withCrc [0x92]) = some (end92 t) ∧
    (end92 t).judgement = some (.valid 2 false none) ∧ (end92 t).access.window.closedBy 2 := by
  unfold Window.unclosedBy Window.closedBy Window.staysOpen; decide +kernel
theorem witness_CorruptedFrameCutsTheWindow :
    let ends := fun (s : State) => (s.withZone 0xFF).burstEndBad = some (spoiled s) ∧
      (spoiled s).judgement = some .corrupted ∧ (spoiled s).ownBurst = false
    ends idle ∧ idle.access.window.isOpen = false ∧
    ends claiming ∧ (spoiled claiming).access.window = openTo 1 .claim ∧
    (spoiled claiming).awaitsClaim claimWaits .up ∧ (spoiled claiming).access.queue.length ≤ 4 ∧
    ends joining ∧ (spoiled joining).access.window = openTo 1 .join ∧ (spoiled joining).memb.join = some joinWaits ∧
    ends evicting ∧ (spoiled evicting).access.window = openTo 1 .evict ∧ (spoiled evicting).memb.target = none ∧
    (spoiled evicting).memb.evict = some { target := 0, waiting := true, aliveHeard := false } ∧
    (spoiled evicting).dir.eviction = some { target := 0, returnState := .silent, aliveHeard := false } ∧
    ends (targeted false) ∧ (spoiled (targeted false)).memb.target = some ⟨2, false⟩ ∧
    (spoiled (targeted false)).access.window = openTo 2 .evict ∧ (targeted false).memb.state = .joined ∧
    ends (targeted true) ∧ (spoiled (targeted true)).memb.target = some ⟨2, true⟩ := by
  unfold State.awaitsClaim; decide +kernel
theorem witness_OwnFrameSentIsActedOn :
    let sent := fun (s : State) (e : QEntry) (f : Frame) =>
      (sending s e f).burstIs 0xFF 1 true f (judged (sending s e f) 0xFF 1 f) ∧
      (judged (sending s e f) 0xFF 1 f).access.window.unclosedBy 1
    let claimed : WindowId := { originator := 2, kind := .claim }
    let ordered : WindowId := { originator := 2, kind := .evict }
    let grant := Frame.grant 2 6 (.run 6 6)
    let objection := Frame.refuse 2 0 .alive
    sent idle (evictEntry 0) (.evict 0) ∧ idle.access.window.isOpen = false ∧ idle.isPeer 0 = true ∧
    idle.straps.address = 1 ∧ sent idle presenceEntry idle.presenceFields ∧
    sent (withWindow idle (openTo 2 .claim)) (answerEntry grant claimed) grant ∧ (opensWindow grant).isNone = true ∧
    sent (targeted false) (answerEntry objection ordered) objection ∧ (targeted false).memb.target = some ⟨2, false⟩ := by
  unfold State.burstIs Window.unclosedBy Window.staysOpen; decide +kernel
theorem witness_OwnFrameLostIsActedOn :
    let lost := fun (s : State) => (s.withZone 0xFF).burstEndBad = some (spoiled s) ∧
      (spoiled s).judgement = some .corrupted ∧ (spoiled s).ownBurst = true ∧
      (spoiled s).access.inTx.isSome = true ∧ (spoiled s).access.queue.length ≤ 4 ∧ s.sending = true
    let claimed : WindowId := { originator := 2, kind := .claim }
    let ordered : WindowId := { originator := 2, kind := .evict }
    let presence := sending idle presenceEntry idle.presenceFields
    let claim := sending (withWindow claiming windowReset) claimEntry (.claim 2 0 .up false (.run 6 6))
    let join := sending (withWindow joining windowReset) (joinEntry 1 (.run 4 5)) (.join 1 (.run 4 5))
    let evict := sending (idle.setMemb { idle.memb with evict := evicting.memb.evict }) (evictEntry 0) (.evict 0)
    let grant := Frame.grant 2 6 (.run 6 6)
    let answer := sending (withWindow idle (openTo 2 .claim)) (answerEntry grant claimed) grant
    let objection := Frame.refuse 2 0 .alive
    let objects := sending (targeted false) (answerEntry objection ordered) objection
    lost presence ∧ presence.access.window.isOpen = false ∧ lost claim ∧ (spoiled claim).awaitsClaim claimWaits .up ∧
    lost join ∧ (spoiled join).memb.join = some joinWaits ∧ lost evict ∧ evict.memb.evict.isSome = true ∧
    lost answer ∧ answer.access.window = openTo 2 .claim ∧ answer.memb.presenceDue = false ∧
    lost objects ∧ objects.memb.target = some ⟨2, false⟩ ∧ objects.memb.state = .joined := by
  unfold State.awaitsClaim; decide +kernel
theorem witness_SlotsPassInTurn :
    let s := idle.setAccess { idle.access with slot := some 3 }
    idle.access.phase = .slotting ∧ idle.access.base = some 3 ∧ idle.access.slot = some 0 ∧
    (onTurn idle []).access.phase = .settle ∧ (3 + 1 + 0) % cfg.n ≠ 1 ∧ 0 + 1 < cfg.n ∧
    (idle.setAccess { idle.access with slot := some 1 }).access.slot = some 1 ∧ (3 + 1 + (1 + 1)) % cfg.n ≠ 1 ∧
    s.access.slot = some 3 ∧ 3 + 1 = cfg.n ∧ s.selected = none ∧
    (closing idle 1 .claim).access.window.unheard = [2] ∧
    (after (.lineIdle) (after (.start (req 0x11 0 0 0) 0xFF) dormant)).access.busTimer.running = true := by
  decide +kernel
theorem witness_OwnSlotSendsTheSelectedFrame :
    let j := joinEntry 1 (.run 4 5)
    let r := releaseEntry (.run 5 5) .up
    let hands := fun (s : State) (e : QEntry) =>
      HandsOver s .settleEnd (instant .settleEnd s) ∧ (instant .settleEnd s).selected = some e
    hands (onTurn idle [presenceEntry]) presenceEntry ∧ hands (onTurn idle [r]) r ∧
    hands (onTurn (withWindow joining windowReset) [j]) j ∧ j.isJoin = true ∧ idle.line.rx = .await := by
  unfold HandsOver; decide +kernel
/-- A later slot of the station's own, the last boundary, and the idle period of UNSYNCED bring the instant. -/
theorem witness_OwnSlotSendsTheSelectedFrame_boundary :
    let s := idle.setAccess { idle.access with queue := [releaseEntry (.run 5 5) .up] }
    HandsOver s (.slotBoundary 0xFF) (instant (.slotBoundary 0xFF) s) ∧
    (instant (.slotBoundary 0xFF) s).selected = some (releaseEntry (.run 5 5) .up) := by
  refine ⟨⟨by decide, by decide, 3, by decide, 0, by decide, by decide, .inl (by decide), .inl ?_⟩, by decide +kernel⟩
  decide +kernel
theorem witness_OwnSlotSendsTheSelectedFrame_last :
    let s := idle.setAccess { idle.access with slot := some 3, queue := [releaseEntry (.run 5 5) .up] }
    HandsOver s (.slotBoundary 0xFF) (instant (.slotBoundary 0xFF) s) ∧
    (instant (.slotBoundary 0xFF) s).selected = some (releaseEntry (.run 5 5) .up) := by
  refine ⟨⟨by decide, by decide, 3, by decide, 3, by decide, by decide, .inl (by decide), .inr ?_⟩, by decide +kernel⟩
  decide +kernel
theorem witness_OwnSlotSendsTheSelectedFrame_unsynced :
    let r := releaseEntry (.run 5 5) .up
    let s := idle.setAccess
      { idle.access with phase := .unsynced, base := none, slot := none, busTimer := ⟨true, 11⟩, queue := [r] }
    HandsOver s .unsyncedIdleExpiry (instant .unsyncedIdleExpiry s) ∧
    (instant .unsyncedIdleExpiry s).selected = some r := by
  unfold HandsOver; decide +kernel
/-- In QUIET the presence timer brings the instant. -/
theorem witness_OwnSlotSendsTheSelectedFrame_quiet :
    let s := quiet idle []
    let t := s.advance s.presenceInterval
    let s0 := (t.setMemb { t.memb with presenceTimer := ⟨false, s.presenceInterval⟩ }).makePresenceDue
    HandsOver s .presenceTimerExpiry s0 ∧ s0.selected = some presenceEntry ∧ s0.line.rx = .await := by
  unfold HandsOver; decide +kernel
theorem witness_ClaimIsFixedAtItsHandover :
    let q := fun (s : State) => onTurn (s.setResv { s.resv with claim := some freshClaim }) [claimEntry]
    let hands := fun (s : State) =>
      HandsOver s .settleEnd (instant .settleEnd s) ∧ (instant .settleEnd s).selected = some claimEntry
    hands (q moving) ∧ hands (q idle) := by
  unfold HandsOver; decide +kernel
/-- What the claim finds there, and with a lost neighbour, and with the zone next to H taken. -/
theorem witness_ClaimIsFixedAtItsHandover_plans :
    let q := fun (s : State) => onTurn (s.setResv { s.resv with claim := some freshClaim }) [claimEntry]
    let lost := (q moving).setMotion { moving.motion with need := some { side := .down, lo := 3, hi := 3 } }
    let taken := (q moving).setMotion { moving.motion with need := some { side := .up, lo := 7, hi := 7 } }
    claimEntry.payload = .claim ∧ (q idle).motion.need = none ∧
    (q moving).motion.need = some { side := .up, lo := 6, hi := 6 } ∧
    (q moving).claimPlan = .send .up (.run 6 6) (some 2) ∧ lost.claimPlan = .silent .down 0 3 ∧
    taken.claimPlan = .held .up 7 ∧ lost.motion.state ≠ .relocating ∧ taken.resv.attempt < 4 := by decide +kernel
/-- The fourth local HELD failure, and the two failures of a down relocate in CLAIMING. -/
theorem witness_ClaimIsFixedAtItsHandover_failures :
    let q := fun (s : State) => onTurn (withWindow s windowReset) [claimEntry]
    let fourth := onTurn
      (moving.setResv { moving.resv with claim := some freshClaim, attempt := 4, attemptSide := some .up }) [claimEntry]
    let taken := fourth.setMotion { moving.motion with need := some { side := .up, lo := 7, hi := 7 } }
    let silent := q (relocateClaims freshClaim 1)
    let near : PeerEntry := { state := .present, held := .run 3 4, occupied := .run 3 3, mode := .idle, age := 0 }
    let held := (q (relocateClaims freshClaim 4)).setDir { entries := peers.set 0 near, eviction := none }
    taken.claimPlan = .held .up 7 ∧ taken.resv.attempt = 4 ∧ taken.resv.attemptSide = some .up ∧
    silent.claimPlan = .silent .down 0 4 ∧ held.claimPlan = .held .down 4 ∧ held.resv.attempt = 4 ∧
    held.motion.state = .relocating ∧ held.resv.held ≠ .empty ∧ held.neighbour held.resv.held .up = some 2 ∧
    (held.entry 2).state = .present := by decide +kernel
theorem witness_ClaimIsFixedAtItsHandover_relocating :
    let s := onTurn (withWindow (relocateClaims freshClaim 4) windowReset) [claimEntry]
    HandsOver s .settleEnd (instant .settleEnd s) ∧ (instant .settleEnd s).selected = some claimEntry := by
  unfold HandsOver; decide +kernel
/-- In QUIET the re-arm timer brings the instant. -/
theorem witness_ClaimIsFixedAtItsHandover_quiet :
    let s := (quiet moving []).waitRearm [2]
    let s0 := (s.advance (s.presenceInterval - s.resv.rearm.timer.value)).arm
    HandsOver s .rearmTimerExpiry s0 ∧ s0.selected = some claimEntry ∧ s0.resv.claim = some freshClaim ∧
    s0.line.rx = .await := by
  unfold HandsOver; decide +kernel
theorem witness_ClaimConcludesAtItsWindowsClose :
    let s := closing claiming 1 .claim
    let granted := { claimWaits with grant := some (.run 6 6) }
    ClosesAtBoundary s 3 2 s.straps.address .claim ∧ s.resv.claim = some claimWaits ∧ claimWaits.phase = .waiting ∧
    claimWaits.inconclusive = false ∧ claimWaits.side = some .up ∧ s.access.queue.length ≤ 4 ∧
    claimWaits.orphaned = false ∧ claimWaits.refusal = none ∧ s.overlapping (.run 6 6) = [] ∧
    (ZRange.run 6 6).adjacent s.resv.held .up = true ∧ claimWaits.grant = none ∧ claimWaits.unopposed = false ∧
    s.resv.attempt < 4 ∧ s.motion.state ≠ .relocating ∧ granted.grant = some (.run 6 6) ∧
    { granted with orphaned := true }.orphaned = true := by
  unfold ClosesAtBoundary; decide +kernel
/-- Claims that wait, with and without a grant, as the rail law has them. -/
theorem witness_ClaimConcludesAtItsWindowsClose_lawful :
    ClaimLaw cfg.z claiming.resv.held { claimWaits with grant := some (.run 6 6) } ∧
    ClaimLaw cfg.z (relocateClaims grantedDown 1).resv.held grantedDown :=
  ⟨{ side := by decide, requested := by decide, grant := fun g h => by cases h; decide },
   { side := by decide, requested := by decide, grant := fun g h => by cases h; decide }⟩
/-- A stalled move whose next step the grant of zone 6 lets fit, and one that it does not. -/
theorem witness_ClaimConcludesAtItsWindowsClose_stalled :
    let s := closing (claiming.setMotion { claiming.motion with state := .stalled, p := 80 }) 1 .claim
    let t := closing (claiming.setMotion { claiming.motion with state := .stalled, direction := some .down }) 1 .claim
    let grown := fun (u : State) => u.setResv { u.resv with held := u.resv.held.span (.run 6 6) }
    ClosesAtBoundary s 3 2 s.straps.address .claim ∧ StepLeadsTo (grown s) .up 81 ∧
    ClosesAtBoundary t 3 2 t.straps.address .claim ∧ ¬ StepLeadsTo (grown t) .down 63 ∧ 63 + 1 = t.motion.p := by
  unfold ClosesAtBoundary StepLeadsTo; decide +kernel
/-- A range with zones that station 2 holds, before and at its first zone. -/
theorem witness_ClaimConcludesAtItsWindowsClose_clipped :
    let s := closing claiming 1 .claim
    (ZRange.run 6 7).overlaps s.resv.held = false ∧ s.holder 7 = some 2 ∧ s.holder 6 = none ∧
    (∀ u, u ∈ List.range (7 + 1) → 6 ≤ u ∧ u < 7 → s.holder u = none) ∧
    (ZRange.run 6 6).adjacent s.resv.held .up = true ∧ (ZRange.run 7 7).overlaps s.resv.held = false ∧
    ∀ u, u ∈ List.range (7 + 1) → 7 ≤ u ∧ u < 7 → s.holder u = none := by decide +kernel
/-- A relocate that waits in CLAIMING, its claim granted, and failed for the fourth time. -/
theorem witness_ClaimConcludesAtItsWindowsClose_relocating :
    let s := closing (relocateClaims grantedDown 1) 1 .claim
    let t := closing (relocateClaims { grantedDown with grant := none } 4) 1 .claim
    ClosesAtBoundary s 3 2 s.straps.address .claim ∧ s.motion.state = .relocating ∧
    s.overlapping (.run 4 4) = [] ∧ (ZRange.run 4 4).adjacent s.resv.held .down = true ∧
    relocateRange s.port.cfg 5 .down = some (.run 4 6) ∧ (ZRange.run 4 6).inside (s.resv.held.span (.run 4 4)) = true ∧
    ClosesAtBoundary t 3 2 t.straps.address .claim ∧ t.resv.attempt = 4 ∧ grantedDown.side = some .down ∧
    (ZRange.run 4 4).overlaps t.resv.held = false ∧ t.resv.held ≠ .empty ∧ 5 + cfg.w + 1 < cfg.z := by
  unfold ClosesAtBoundary; decide +kernel
theorem witness_JoinConcludesAtItsWindowsClose :
    let s := closing joining 1 .join
    let heard := { joinWaits with highHeard := true, highBound := some 6 }
    let t := s.setMemb { s.memb with join := some heard }
    ClosesAtBoundary s 3 2 s.straps.address .join ∧ s.memb.join = some joinWaits ∧ joinWaits.phase = .waiting ∧
    joinWaits.occupied = .run 4 5 ∧ s.memb.state = .joining ∧ joinWaits.expectedUpper.isSome = true ∧
    joinWaits.highHeard = false ∧ joinWaits.attempt < 4 ∧ ClosesAtBoundary t 3 2 t.straps.address .join ∧
    t.overlapping heard.adopted = [] ∧ t.overlapping (.run 4 7) = [2] := by
  unfold ClosesAtBoundary; decide +kernel
theorem witness_EvictionConcludesAtItsWindowsClose :
    let s := closing (after (.evictFrame 3 0 0xFF) idle) 3 .evict
    ClosesAtBoundary s 3 2 3 .evict ∧
    s.dir.eviction = some { target := 0, returnState := .silent, aliveHeard := false } := by
  unfold ClosesAtBoundary; decide +kernel
theorem witness_SilentPeerKeepsItsZones :
    idle.dirActive = true ∧ idle.isPeer 2 = true ∧ (idle.entry 2).state = .present ∧ (idle.entry 0).state = .silent ∧
    (after (.evictFrame 3 2 0xFF) idle).dir.eviction =
      some { target := 2, returnState := .present, aliveHeard := false } ∧
    ((after (.evictFrame 3 2 0xFF) idle).entry 2).state = .evicting := by decide +kernel
theorem witness_TimersOfClaimsAndMembership :
    (moving.waitRearm [0]).resv.rearm.waiting = true ∧ (moving.waitRearm [0]).resv.rearm.timer.running = true ∧
    moving.motion.need.isSome = true ∧ moving.claimInFlight = false ∧
    (after (.start (req 0x11 0 0 0) 0xFF) dormant).memb.state = .listening ∧
    (after (.start (req 0x11 0 0 0) 0xFF) dormant).memb.listenTimer.running = true ∧
    (idle.beginAttempt 1).memb.join = some (joinRecord .reading 1 .empty) ∧
    (idle.beginAttempt 1).memb.listenTimer.running = true ∧ idle.memb.state = .joined ∧
    idle.memb.presenceTimer.running = true := by decide +kernel
theorem witness_StepEventMovesTheCarriage :
    let atEdge := moving.setMotion { moving.motion with p := 80 }
    StepLeadsTo moving .up 65 ∧ moving.motion.known = true ∧ moving.motion.stepTimer.running = true ∧
    moving.motion.setupTimer.running = false ∧ ¬ StepLeadsTo atEdge .up 81 ∧ atEdge.motion.direction = some .up ∧
    moving.motion.dirUp = true ∧ moving.resv.held = .run 4 5 ∧ 5 < cfg.z ∧ moving.motion.target ≠ some 65 ∧
    (moving.setMotion { moving.motion with target := some 65 }).motion.target = some 65 ∧
    (moving.setMotion { moving.motion with mismatch := 1 }).motion.mismatch + 1 > cfg.t := by
  unfold StepLeadsTo; decide +kernel
theorem witness_RelocateStepFindsTheBoundary :
    relocating.motion.state = .relocating ∧ relocating.motion.stepTimer.running = true ∧
    relocating.motion.dirUp = false ∧ unplaced.motion.state ≠ .relocating ∧ (0x04#8).toNat + 1 = 5 ∧
    5 * cfg.s - 1 ≤ (cfg.z - cfg.w) * cfg.s ∧ (bodyAt cfg (5 * cfg.s - 1)).inside relocating.resv.held = true ∧
    0 + 1 < cfg.s + cfg.t ∧ cfg.s + cfg.t ≤ 16 + 1 ∧ relocating.fault.cause = none ∧
    (9 + 1) * cfg.s > (cfg.z - cfg.w) * cfg.s := by decide +kernel
theorem witness_PulseAndStallTimersRunOut :
    let setUp := after (.stepEvent 0x04) (moving.setMotion { moving.motion with dirUp := false })
    let stalled := after (.stepEvent 0x05) (moving.setMotion { moving.motion with p := 80 })
    let relocSetUp := after (.relocateStepEvent 0x05) (relocating.setMotion { relocating.motion with dirUp := true })
    setUp.motion.setupTimer.running = true ∧ setUp.motion.state = .moving ∧ StepLeadsTo setUp .up 65 ∧
    (after (.stepEvent 0x04) moving).motion.stepHigh = true ∧ stalled.motion.state = .stalled ∧
    stalled.motion.stallTimer.running = true ∧ relocSetUp.motion.setupTimer.running = true ∧
    relocSetUp.motion.state = .relocating ∧ relocSetUp.motion.reloc =
      some { k := 5, side := .down, phase := .stepping, downTried := false, steps := 0 } ∧
    (0x05#8).toNat = 5 ∧ 5 < cfg.z ∧ 0 + 1 < cfg.s + cfg.t ∧ cfg.s + cfg.t ≤ 16 + 1 ∧ (0x04#8).toNat + 1 = 5 ∧
    5 * cfg.s - 1 ≤ (cfg.z - cfg.w) * cfg.s ∧ (bodyAt cfg (5 * cfg.s - 1)).inside relocSetUp.resv.held = true ∧
    (9 + 1) * cfg.s > (cfg.z - cfg.w) * cfg.s ∧ (0x07#8).toNat ≠ 5 ∧ relocSetUp.fault.cause = none ∧
    setUp.fault.cause = none ∧ setUp.motion.known = true ∧ setUp.resv.held = .run 4 5 ∧ cfg.t < 1 + 1 := by
  unfold StepLeadsTo; decide +kernel
theorem witness_FaultLatchTakesReports :
    idle.fault.cause = none ∧ 2 ∉ idle.fault.intruders ∧ (idle.reportFault (.intrusion 2)).fault.cause.isSome = true ∧
    2 ∈ (idle.reportFault (.intrusion 2)).fault.intruders ∧
    (idle.reportFault (.intrusion 2)).fault.take (.intrusion 2) = none ∧ (idle.fault.take .tracking).isSome = true := by
  decide +kernel
theorem witness_OutgoingQueueAdmitsOffers :
    let r := releaseEntry (.run 0 0) .up
    let full := List.replicate 7 r
    [presenceEntry].any QEntry.isPresence = true ∧ [claimEntry].any (fun y => y.isClaim || y.isJoin) = true ∧
    [r].any (fun y => y.isReleaseOn .up) = true ∧ ([] : List QEntry).length < 8 ∧
    8 ≤ (full ++ presenceEntry :: []).length ∧ presenceEntry.cls = 3 ∧ claimEntry.cls = 2 ∧ (evictEntry 0).cls < 2 ∧
    (∀ y, y ∈ full → y.cls < 2) := by decide +kernel
theorem witness_SelectionTakesTheOldestOfTheFirstClass :
    (onTurn idle [presenceEntry, releaseEntry (.run 5 5) .up]).selected = some (releaseEntry (.run 5 5) .up) ∧
    (withWindow (onTurn idle [claimEntry]) (openTo 2 .claim)).selected = none := by decide +kernel

/-- The JOINED station keeps all the laws, so the statements over every step that assume them are met. -/
theorem witness_laws_that_every_step_keeps : PartLaw idle ∧ ∃ t, step idle = .next t := by
  refine ⟨{ event := ?_, queue := ?_, latch := ?_, window := ?_, station := ?_, ownWindow := ?_, rail := ?_ }, _, rfl⟩
  · exact ⟨by decide, by decide⟩
  · exact ⟨by decide, by decide, by decide, fun side => by cases side <;> decide⟩
  · exact ⟨by decide, by decide⟩
  · exact { named := by decide, distinct := by decide, notOriginator := (fun _ h => nomatch h), closed := by decide }
  · exact { heldOnlyJoined := by decide, claimOnlyJoined := by decide, claimEntry := by decide +kernel,
            joinOnlyJoining := by decide, activeOnlyJoined := by decide, haltedIffFault := by decide,
            faultOnlyMember := by decide, evictedCause := by decide, pulseOnlyDriven := by decide,
            setupOnlyStepping := by decide, heldDormant := by decide, receiverOff := by decide }
  · exact { outstanding := by decide, joinEntry := by decide +kernel }
  · refine { config := ?_, started := by decide, heldOk := by decide, heldJoined := by decide,
             entriesOk := by decide +kernel, dormant := by decide, directory := ?_, eviction := ?_, containment := ?_,
             setUpFits := by decide, setUpSteps := by decide, claim := (fun _ h => nomatch h),
             need := (fun _ h => nomatch h), join := (fun _ h => nomatch h) }
    · intro i lo hi v hr hv
      have hi' : i < 10 := by
        rcases Nat.lt_or_ge i 10 with h | h
        · exact h
        · exfalso; revert hr; unfold configRange; split <;> first | omega | exact nofun
      have key : ∀ i, i < 10 → ∀ q, q ∈ (configRange i).toList → ∀ w, w ∈ (configGet cfg i).toList → q.1 ≤ w ∧ w ≤ q.2 := by
        decide
      exact key i hi' (lo, hi) (by rw [hr]; simp) v (by rw [show configGet cfg i = some v from hv]; simp)
    · intro a; revert a; decide +kernel
    · exact { absent := by decide +kernel, target := (fun _ h => nomatch h), window := (fun _ h => nomatch h),
              returns := (fun _ h => nomatch h), joiner := (fun _ h => nomatch h) }
    · exact { knownState := by decide, placed := by decide, legal := by decide, inside := by decide,
              relocating := by decide }


end Sys2Proof.Tests
end

/-! PROOFS. RELOCATE's acceptance: which direction it takes and in which phase it begins (R6, R7, R127, R135 to R137). -/

namespace Sys2Proof.Machine

/-! ### The need -/

@[simp] theorem State.need_setNeed (s : State) (new : Option Need) : (s.setNeed new).motion.need = new := by
  simp only [State.setNeed]
  (repeat' split) <;> simp

@[simp] theorem State.need_updateNeed (s : State) : s.updateNeed.motion.need = s.computeNeed :=
  s.need_setNeed _

/-- A range that is not empty lies inside no empty range (R8). -/
theorem ne_empty_of_run_inside {lo hi : Nat} {h : ZRange} (hi : (ZRange.run lo hi).inside h = true) : h ≠ .empty := by
  rintro rfl
  simp [ZRange.inside] at hi

/-! ### The instant of the handover without a need -/

theorem State.claimNotSent_lapsed_keeps (s : State) :
    (s.claimNotSent .lapsed).motion = s.motion ∧ (s.claimNotSent .lapsed).port = s.port := ⟨rfl, rfl⟩

/-- Where there is no need, a CLAIM entry that comes up lapses; it neither moves the engine nor raises an event
(R33, R76). -/
theorem State.handoverLoop_of_no_need (s : State) (fuel : Nat) (h : s.motion.need = none) :
    (s.handoverLoop fuel).motion = s.motion ∧ (s.handoverLoop fuel).port = s.port := by
  induction fuel generalizing s with
  | zero => exact ⟨rfl, rfl⟩
  | succ n ih =>
    have plan : s.claimPlan = .lapsed := by simp [State.claimPlan, h]
    obtain ⟨motion, port⟩ := s.claimNotSent_lapsed_keeps
    obtain ⟨laterMotion, laterPort⟩ := ih (s.claimNotSent .lapsed) (motion ▸ h)
    simp only [State.handoverLoop, plan]
    split
    next => exact ⟨rfl, rfl⟩
    next e _ =>
      cases e.payload with
      | presence => simp
      | claim => exact ⟨laterMotion.trans motion, laterPort.trans port⟩
      | frame f => dsimp only; split <;> simp

/-- The handover of QUIET leaves the engine and the events alone where there is no need, and does not come in any other
phase (R33). -/
theorem State.kick_keeps_engine {s : State} (h : s.motion.need = none ∨ s.access.phase ≠ .quiet) :
    s.kick.motion = s.motion ∧ s.kick.port = s.port := by
  unfold State.kick
  split
  case isFalse => exact ⟨rfl, rfl⟩
  case isTrue hq =>
    have hn := h.resolve_right (not_not_intro hq)
    unfold State.handover
    split <;> simp [State.handoverLoop_of_no_need _ _ hn]

/-! ### How a relocate begins -/

/-- The engine steps on a relocate record, with the step timer from 0 and no need (R136, R137). -/
def Motion.StepsOn (m : Motion) (r : RelocRecord) : Prop :=
  m.state = .relocating ∧ m.stepTimer = ⟨true, 0⟩ ∧ m.need = none ∧ m.reloc = some { r with phase := .stepping }

/-- The engine waits on a relocate record for one missing zone (R136, R137). -/
def Motion.WaitsOn (m : Motion) (r : RelocRecord) (missing : Nat) : Prop :=
  m.state = .relocating ∧ m.stepTimer.running = false ∧
    m.need = some { side := r.side, lo := missing, hi := missing } ∧ m.reloc = some { r with phase := .claiming }

/-- The relocate from zone k has ended BLOCKED (R141). -/
def State.BlockedFrom (s : State) (k : Nat) (u : State) : Prop :=
  u.motion.state = .unplaced ∧ u.motion.reloc = none ∧ u.motion.need = none ∧
    u.port.events = placeEvent s.port.events (.relocateEnded .blocked k)

theorem State.enterDirection_stepsOn {s : State} {r : RelocRecord} (hm : s.motion.state = .relocating)
    (hf : relocFits s.port.cfg r s.resv.held = true) : (s.enterDirection r).motion.StepsOn r := by
  unfold State.enterDirection
  rw [if_pos hf]
  simp [Motion.StepsOn, hm, Timer.start, State.computeNeed, relocNeed]

theorem State.enterDirection_waitsOn {s : State} {r : RelocRecord} {missing : Nat}
    (hm : s.motion.state = .relocating) (hh : s.resv.held ≠ .empty)
    (hf : relocFits s.port.cfg r s.resv.held = false)
    (hn : relocNeed s.port.cfg { r with phase := .claiming } = some { side := r.side, lo := missing, hi := missing }) :
    (s.enterDirection r).motion.WaitsOn r missing := by
  unfold State.enterDirection
  rw [if_neg (by simp [hf])]
  simp [Motion.WaitsOn, hm, Timer.stopped, State.computeNeed, hh, hn]

theorem State.endRelocate_blockedFrom {s : State} {r : RelocRecord} (hr : s.motion.reloc = some r) :
    s.BlockedFrom r.k (s.endRelocate .blocked .unplaced) := by
  simp [State.BlockedFrom, State.endRelocate, hr, State.queueEvent]

/-- The record of a fresh relocate (R135). -/
def freshReloc (k : Nat) (side : Side) : RelocRecord :=
  { k := k, side := side, phase := .claiming, downTried := false, steps := 0 }

/-- The engine takes up a fresh relocate, and has yet to choose its direction (R135). -/
def State.takeUpReloc (s : State) (k : Nat) : State :=
  s.setMotion { s.motion with state := .relocating, reloc := some (freshReloc k .down) }

@[simp] theorem State.port_takeUpReloc (s : State) (k : Nat) : (s.takeUpReloc k).port = s.port := (rfl)

/-- A relocate that does not hold its conservative range is blocked at once (R136). -/
theorem State.beginRelocate_blocked {s : State} {k : Nat}
    (hc : (conservativeRange s.port.cfg k).inside s.resv.held = false) :
    s.BlockedFrom k (s.beginRelocate k) := by
  have ends : s.beginRelocate k = (s.takeUpReloc k).endRelocate .blocked .unplaced := if_neg (by simp [hc])
  rw [ends]
  exact State.endRelocate_blockedFrom (s := s.takeUpReloc k) rfl

/-- A relocate prefers DOWN, which every zone but the first leaves room for (R136). -/
theorem State.beginRelocate_down {s : State} {k : Nat}
    (hc : (conservativeRange s.port.cfg k).inside s.resv.held = true) (hk : 1 ≤ k) :
    s.beginRelocate k = (s.takeUpReloc k).enterDirection (freshReloc k .down) :=
  (if_pos hc).trans (if_pos hk)

/-- From zone 0 a relocate goes UP, or is blocked where the rail has no up range (R137). -/
theorem State.beginRelocate_zero {s : State} {k : Nat}
    (hc : (conservativeRange s.port.cfg k).inside s.resv.held = true) (hk : k = 0) :
    s.beginRelocate k = (s.takeUpReloc k).relocateUp (freshReloc k .down) :=
  (if_pos hc).trans (if_neg (by simp [hk]))

/-- The rail has an up range from zone k where the zone above the carriage's reach is one of its zones (R7). -/
theorem relocateRange_up_isSome {c : Config} {k : Nat} :
    (relocateRange c k .up).isSome = true ↔ k + c.w + 1 < c.z := by
  simp only [relocateRange]
  split <;> simp <;> omega

theorem State.relocateUp_of_range {s : State} {k : Nat} {side : Side} (h : k + s.port.cfg.w + 1 < s.port.cfg.z) :
    s.relocateUp (freshReloc k side) = s.enterDirection (freshReloc k .up) :=
  if_pos (relocateRange_up_isSome.2 h)

theorem State.relocateUp_of_no_range {s : State} {k : Nat} {side : Side} (h : s.port.cfg.z ≤ k + s.port.cfg.w + 1) :
    s.relocateUp (freshReloc k side) = s.endRelocate .blocked .unplaced :=
  if_neg (relocateRange_up_isSome.not.2 (Nat.not_lt.2 h))

theorem relocFits_down {c : Config} {k : Nat} {h : ZRange} (hk : 1 ≤ k) :
    relocFits c (freshReloc k .down) h = (ZRange.run (k - 1) (min (k + c.w) (c.z - 1))).inside h := by
  simp [relocFits, freshReloc, relocateRange, hk]

theorem relocFits_up_zero {c : Config} {h : ZRange} (hw : c.w + 1 < c.z) :
    relocFits c (freshReloc 0 .up) h = (ZRange.run 0 (c.w + 1)).inside h := by
  simp [relocFits, freshReloc, relocateRange, show c.w + 1 ≤ c.z - 1 by omega]

/-! ### The direction a relocate takes, by its zone and by H -/

section
variable {s : State} {k : Nat} (hc : (conservativeRange s.port.cfg k).inside s.resv.held = true)
include hc

theorem State.beginRelocate_down_stepsOn (hk : 1 ≤ k)
    (hin : (ZRange.run (k - 1) (min (k + s.port.cfg.w) (s.port.cfg.z - 1))).inside s.resv.held = true) :
    (s.beginRelocate k).motion.StepsOn (freshReloc k .down) := by
  rw [s.beginRelocate_down hc hk]
  exact State.enterDirection_stepsOn (s := s.takeUpReloc k) rfl ((relocFits_down hk).trans hin)

theorem State.beginRelocate_down_waitsOn (hk : 1 ≤ k)
    (hin : (ZRange.run (k - 1) (min (k + s.port.cfg.w) (s.port.cfg.z - 1))).inside s.resv.held = false) :
    (s.beginRelocate k).motion.WaitsOn (freshReloc k .down) (k - 1) := by
  rw [s.beginRelocate_down hc hk]
  exact State.enterDirection_waitsOn (s := s.takeUpReloc k) rfl (ne_empty_of_run_inside hc)
    ((relocFits_down hk).trans hin) rfl

theorem State.beginRelocate_up_stepsOn (hk : k = 0) (hw : s.port.cfg.w + 1 < s.port.cfg.z)
    (hin : (ZRange.run 0 (s.port.cfg.w + 1)).inside s.resv.held = true) :
    (s.beginRelocate k).motion.StepsOn (freshReloc k .up) := by
  subst hk
  rw [s.beginRelocate_zero hc rfl, State.relocateUp_of_range (s := s.takeUpReloc 0) (by simpa using hw)]
  exact State.enterDirection_stepsOn (s := s.takeUpReloc 0) rfl ((relocFits_up_zero hw).trans hin)

theorem State.beginRelocate_up_waitsOn (hk : k = 0) (hw : s.port.cfg.w + 1 < s.port.cfg.z)
    (hin : (ZRange.run 0 (s.port.cfg.w + 1)).inside s.resv.held = false) :
    (s.beginRelocate k).motion.WaitsOn (freshReloc k .up) (s.port.cfg.w + 1) := by
  subst hk
  rw [s.beginRelocate_zero hc rfl, State.relocateUp_of_range (s := s.takeUpReloc 0) (by simpa using hw)]
  exact State.enterDirection_waitsOn (s := s.takeUpReloc 0) rfl (ne_empty_of_run_inside hc)
    ((relocFits_up_zero hw).trans hin) (by simp [relocNeed, freshReloc])

theorem State.beginRelocate_zero_blocked (hk : k = 0) (hw : s.port.cfg.z ≤ s.port.cfg.w + 1) :
    s.BlockedFrom k (s.beginRelocate k) := by
  rw [s.beginRelocate_zero hc hk, State.relocateUp_of_no_range (s := s.takeUpReloc k) (by simpa [hk] using hw)]
  exact State.endRelocate_blockedFrom (s := s.takeUpReloc k) rfl

end

/-! ### RELOCATE accepted -/

/-- What RELOCATE leaves alone whichever way the relocate begins, and its answer (R119, R135, R153). -/
def State.RelocateFrame (s : State) (zone : Byte) (u : State) : Prop :=
  u.resv.held = s.resv.held ∧ u.motion.p = s.motion.p ∧ u.motion.known = s.motion.known ∧ u.dir = s.dir ∧
    u.fault = s.fault ∧ u.memb.state = s.memb.state ∧ u.port.response.status = .done ∧ u.port.response.data.d3 = zone

/-- The part as RELOCATE finds it: the zone lines read and the pending response shifted out (R4, R144). -/
def State.readAndShifted (s : State) (zone : Byte) : State := (s.withZone zone).shiftOut 64

@[simp] theorem State.readAndShifted_keeps (s : State) (zone : Byte) :
    (s.readAndShifted zone).resv = s.resv ∧ (s.readAndShifted zone).motion = s.motion ∧
    (s.readAndShifted zone).dir = s.dir ∧ (s.readAndShifted zone).fault = s.fault ∧
    (s.readAndShifted zone).memb = s.memb ∧ (s.readAndShifted zone).access = s.access ∧
    (s.readAndShifted zone).port.cfg = s.port.cfg ∧ (s.readAndShifted zone).port.events = s.port.events := by
  simp [State.readAndShifted, State.shiftOut]

theorem State.reading_readAndShifted {s : State} {zone : Byte} (hz : zone.toNat < s.port.cfg.z) :
    (s.readAndShifted zone).reading = some zone.toNat := by
  simp [State.readAndShifted, State.shiftOut, State.reading, State.withZone, hz]

theorem relocateAct_accepts {s : State} {k : Nat} (hj : s.memb.state = .joined) (hu : s.motion.state = .unplaced)
    (hk : s.reading = some k) : relocateAct s = ((s.beginRelocate k).kick, .done) := by
  simp [relocateAct, hj, hu, hk]

@[simp] theorem State.beginRelocate_keeps (s : State) (k : Nat) :
    (s.beginRelocate k).resv.held = s.resv.held ∧ (s.beginRelocate k).motion.p = s.motion.p ∧
    (s.beginRelocate k).motion.known = s.motion.known ∧ (s.beginRelocate k).dir = s.dir ∧
    (s.beginRelocate k).fault = s.fault ∧ (s.beginRelocate k).memb = s.memb ∧
    (s.beginRelocate k).access.phase = s.access.phase := by
  simp [State.beginRelocate]

/-- A request that is taken is carried out, and answered with the status and the data it gives (R146, R147). -/
theorem State.takeRequest_of_takes {s : State} {kind : Byte} {r : Request} (ht : s.takes kind r)
    (act : State → State × Status) (data : State → State → Status → Data) :
    s.takeRequest kind r act data =
      (act (s.shiftOut 64)).1.respond r.seq (act (s.shiftOut 64)).2
        (data (s.shiftOut 64) (act (s.shiftOut 64)).1 (act (s.shiftOut 64)).2) :=
  (if_neg (by simp [ht.1])).trans (if_pos ht.2)

/-- RELOCATE passes all its tests (R135). -/
structure State.AcceptsRelocate (s : State) (r : Request) (zone : Byte) : Prop where
  taken : s.takes 0x22#8 r
  joined : s.memb.state = .joined
  unplaced : s.motion.state = .unplaced
  readable : zone.toNat < s.port.cfg.z

section
variable {r : Request} {zone : Byte} {s : State}

/-- An accepted RELOCATE begins a relocate from the zone read, then answers DONE (R135, R153). -/
theorem exec_relocate_of_accepts (ha : s.AcceptsRelocate r zone) :
    let u := ((s.readAndShifted zone).beginRelocate zone.toNat).kick
    exec (.relocate r zone) s =
      .next (u.respond r.seq .done (relocateData (s.readAndShifted zone) u .done)) := by
  have accepts := relocateAct_accepts (s := s.readAndShifted zone) (by simpa using ha.joined)
    (by simpa using ha.unplaced) (State.reading_readAndShifted ha.readable)
  have taken : (s.withZone zone).takes 0x22#8 r := ha.taken
  change Host.Outcome.next ((s.withZone zone).takeRequest 0x22#8 r relocateAct relocateData) = _
  rw [State.takeRequest_of_takes taken, ← State.readAndShifted, accepts]

/-- The zone read is the fourth data byte of an accepted RELOCATE (R183). -/
theorem relocateData_d3 {u : State} (hr : s.reading = some zone.toNat) : (relocateData s u .done).d3 = zone := by
  simp [relocateData, State.positionData, hr, byte]

/-- An accepted RELOCATE leaves the engine and the events as the beginning of the relocate does, where the handover of
QUIET finds no need or does not come (R33, R135). -/
theorem relocate_completes (ha : s.AcceptsRelocate r zone)
    (hk : ((s.readAndShifted zone).beginRelocate zone.toNat).motion.need = none ∨ s.access.phase ≠ .quiet) :
    Completes (.relocate r zone) s fun u =>
      u.motion = ((s.readAndShifted zone).beginRelocate zone.toNat).motion ∧
      u.port.events = ((s.readAndShifted zone).beginRelocate zone.toNat).port.events ∧ s.RelocateFrame zone u := by
  obtain ⟨engine, port⟩ := State.kick_keeps_engine (s := (s.readAndShifted zone).beginRelocate zone.toNat)
    (by simpa using hk)
  have d3 := fun u => relocateData_d3 (u := u) (State.reading_readAndShifted ha.readable)
  refine ⟨_, exec_relocate_of_accepts ha, ?_⟩
  simp [State.RelocateFrame, State.respond, engine, port, d3]

theorem relocate_stepsOn {y : RelocRecord} (ha : s.AcceptsRelocate r zone)
    (h : ((s.readAndShifted zone).beginRelocate zone.toNat).motion.StepsOn y) :
    Completes (.relocate r zone) s fun u => u.motion.StepsOn y ∧ s.RelocateFrame zone u := by
  have ⟨_, _, need, _⟩ := h
  obtain ⟨u, next, engine, -, frame⟩ := relocate_completes ha (.inl need)
  exact ⟨u, next, engine ▸ h, frame⟩

theorem relocate_waitsOn {y : RelocRecord} {missing : Nat} (ha : s.AcceptsRelocate r zone)
    (hq : s.access.phase ≠ .quiet)
    (h : ((s.readAndShifted zone).beginRelocate zone.toNat).motion.WaitsOn y missing) :
    Completes (.relocate r zone) s fun u => u.motion.WaitsOn y missing ∧ s.RelocateFrame zone u := by
  obtain ⟨u, next, engine, -, frame⟩ := relocate_completes ha (.inr hq)
  exact ⟨u, next, engine ▸ h, frame⟩

theorem relocate_blockedFrom (ha : s.AcceptsRelocate r zone)
    (h : (s.readAndShifted zone).BlockedFrom zone.toNat ((s.readAndShifted zone).beginRelocate zone.toNat)) :
    Completes (.relocate r zone) s fun u =>
      (u.motion.state = .unplaced ∧ u.motion.reloc = none ∧
        u.port.events = placeEvent s.port.events (.relocateEnded .blocked zone.toNat)) ∧ s.RelocateFrame zone u := by
  obtain ⟨state, reloc, need, events⟩ := h
  obtain ⟨u, next, engine, placed, frame⟩ := relocate_completes ha (.inl need)
  exact ⟨u, next, ⟨engine ▸ state, engine ▸ reloc, by simpa [placed] using events⟩, frame⟩

end

end Sys2Proof.Machine

namespace Sys2Proof
open Machine

/-- Settles O17: the record of the direction R136 and R137 choose enters STEPPING or CLAIMING as H has it, and no handover
of QUIET changes what a relocate without a need has begun. -/
theorem relocateBeginsFromTheZoneRead : Obligations.RelocateBeginsFromTheZoneRead := by
  intro r zone s taken joined unplaced readable
  have ha : s.AcceptsRelocate r zone := ⟨taken, joined, unplaced, readable⟩
  let s0 := s.readAndShifted zone
  refine ⟨?_, ?_, ?_, ?_, ?_, ?_⟩
  · intro hc
    exact relocate_blockedFrom ha (State.beginRelocate_blocked (s := s0) hc)
  · intro hc hk hin
    exact relocate_stepsOn ha (State.beginRelocate_down_stepsOn (s := s0) hc hk hin)
  · intro hc hk hin hq
    exact relocate_waitsOn ha hq (State.beginRelocate_down_waitsOn (s := s0) hc hk hin)
  · intro hc hk hw
    exact relocate_blockedFrom ha (State.beginRelocate_zero_blocked (s := s0) hc hk hw)
  · intro hc hk hw hin
    exact relocate_stepsOn ha (State.beginRelocate_up_stepsOn (s := s0) hc hk hw hin)
  · intro hc hk hw hin hq
    exact relocate_waitsOn ha hq (State.beginRelocate_up_waitsOn (s := s0) hc hk hw hin)

end Sys2Proof

/-! PROOFS. The passing of time: which entries grow older, and a step on an empty queue (R49, R59). -/

namespace Sys2Proof.Machine

theorem State.isPeer_iff {s : State} {a : Addr} :
    s.isPeer a = true ↔ a ≠ s.straps.address ∧ a.val < s.port.cfg.n := by
  simp [State.isPeer]

theorem State.dirActive_iff {s : State} :
    s.dirActive = true ↔ s.memb.state = .listening ∨ s.memb.state = .joining ∨ s.memb.state = .joined ∨
      s.memb.state = .detached := by
  unfold State.dirActive
  cases s.memb.state <;> simp

@[simp] theorem getElem_mapEntries (f : Addr → PeerEntry → PeerEntry) (v : Vector PeerEntry 16) (a : Addr) :
    (mapEntries f v)[a.val] = f a v[a.val] := by
  simp [mapEntries]

/-- Time makes the peers of an active directory older and changes nothing else of an entry (R49, R59). -/
theorem State.entry_advance (s : State) (d : Nat) (a : Addr) :
    (s.advance d).entry a =
      if s.dirActive = true ∧ s.isPeer a = true then { s.entry a with age := (s.entry a).age + d } else s.entry a := by
  unfold State.entry State.advance
  by_cases active : s.dirActive = true
  · by_cases peer : s.isPeer a = true
    · simp [active, peer]
    · simp [active, peer]
  · simp [active]

theorem Timer.advance_eq (d : Nat) (x : Timer) :
    x.advance d = if x.running then ⟨true, x.value + d⟩ else x := by
  obtain ⟨running, value⟩ := x
  cases running <;> rfl

theorem step_of_no_command {s : State} (h : s.pending = []) : step s = .next s.tick := by
  simp [step, h]

end Sys2Proof.Machine

namespace Sys2Proof
open Machine

/-- Settles O2: a step on an empty queue is one microsecond of time, which each timer and each entry reads by its own
law. -/
theorem emptyQueueLetsOneMicrosecondPass : Obligations.EmptyQueueLetsOneMicrosecondPass := by
  intro s waits ticked active t
  have timer (x : Timer) : x.advance 1 = ticked x := Timer.advance_eq 1 x
  refine ⟨step_of_no_command waits, ?_, ?_, ?_, ?_, ?_, ?_, ?_, ?_, ?_, ?_, ?_, ?_⟩
  case refine_12 =>
    intro a
    simp only [t, State.entry_advance, State.dirActive_iff, State.isPeer_iff, active]
  all_goals simp [t, State.advance, timer, waits]
  split <;> rfl

end Sys2Proof

/-! PROOFS. The relations and operations on ranges (R8, R9): what is disjoint from H stays so, and what is a range of the
rail stays one. -/

namespace Sys2Proof

@[simp] theorem ZRange.empty_overlaps (r : ZRange) : ZRange.empty.overlaps r = false := by cases r <;> rfl
@[simp] theorem ZRange.overlaps_empty (r : ZRange) : r.overlaps .empty = false := by cases r <;> rfl

@[simp] theorem ZRange.empty_ok (z : Nat) : ZRange.empty.ok z = true := rfl

@[simp] theorem ZRange.run_ok {z lo hi : Nat} : (ZRange.run lo hi).ok z = true ↔ lo ≤ hi ∧ hi < z := by
  simp [ZRange.ok]

@[simp] theorem ZRange.run_inside_run {a b lo hi : Nat} :
    (ZRange.run a b).inside (.run lo hi) = true ↔ lo ≤ a ∧ b ≤ hi := by
  simp [ZRange.inside]

@[simp] theorem ZRange.run_overlaps_run {a b lo hi : Nat} :
    (ZRange.run a b).overlaps (.run lo hi) = false ↔ (a ≤ hi → b < lo) := by
  simp [ZRange.overlaps]

theorem ZRange.inside_refl (r : ZRange) : r.inside r = true := by cases r <;> simp [ZRange.inside]

theorem ZRange.inside_trans {q r h : ZRange} (qr : q.inside r = true) (rh : r.inside h = true) :
    q.inside h = true := by
  cases q with
  | empty => rfl
  | run a b =>
    cases r with
    | empty => simp [ZRange.inside] at qr
    | run c d =>
      cases h with
      | empty => simp [ZRange.inside] at rh
      | run e f =>
        simp only [ZRange.run_inside_run] at *
        omega

/-- A part of a range is disjoint from what the range is disjoint from. -/
theorem ZRange.disjoint_of_inside {q r h : ZRange} (qr : q.inside r = true) (rh : r.overlaps h = false) :
    q.overlaps h = false := by
  cases q with
  | empty => simp
  | run a b =>
    cases r with
    | empty => simp [ZRange.inside] at qr
    | run c d =>
      cases h with
      | empty => simp
      | run e f =>
        simp only [ZRange.run_inside_run, ZRange.run_overlaps_run] at *
        omega

theorem ZRange.overlaps_comm (q r : ZRange) : q.overlaps r = r.overlaps q := by
  cases q <;> cases r <;> simp [ZRange.overlaps, Bool.and_comm]

theorem ZRange.disjoint_of_inside_right {q r h : ZRange} (qr : q.inside r = true) (hr : h.overlaps r = false) :
    h.overlaps q = false := by
  rw [ZRange.overlaps_comm] at *
  exact ZRange.disjoint_of_inside qr hr

/-! ### Removal (R9) -/

theorem ZRange.remove_inside (q r : ZRange) : (q.remove r).inside q = true := by
  cases q with
  | empty => rfl
  | run a b =>
    cases r with
    | empty => simp [ZRange.remove]
    | run c d =>
      simp only [ZRange.remove, Bool.or_eq_true, Bool.and_eq_true, decide_eq_true_eq]
      split_ifs <;> simp [ZRange.inside] <;> omega

theorem ZRange.remove_ok {z : Nat} {q : ZRange} (ok : q.ok z = true) (r : ZRange) : (q.remove r).ok z = true := by
  cases q with
  | empty => rfl
  | run a b =>
    cases r with
    | empty => exact ok
    | run c d =>
      simp only [ZRange.remove, Bool.or_eq_true, Bool.and_eq_true, decide_eq_true_eq, ZRange.run_ok] at *
      split_ifs <;> simp <;> omega

theorem ZRange.remove_of_disjoint {q r : ZRange} (h : q.overlaps r = false) : q.remove r = q := by
  cases q with
  | empty => rfl
  | run a b =>
    cases r with
    | empty => rfl
    | run c d =>
      rw [ZRange.run_overlaps_run] at h
      have apart : (decide (d < a) || decide (b < c)) = true := by
        simp only [Bool.or_eq_true, decide_eq_true_eq]
        omega
      simp [ZRange.remove, apart]

/-- Removing the zones of a range below one of its zones leaves the range from that zone on (R71). -/
theorem ZRange.remove_below {lo hi a : Nat} (h : lo ≤ a) (ha : a ≤ hi) :
    (ZRange.run lo hi).remove (if a = 0 then .empty else (ZRange.run lo hi).inter (.run 0 (a - 1))) = .run a hi := by
  by_cases h0 : a = 0
  · obtain rfl : lo = 0 := by omega
    simp [h0, ZRange.remove]
  by_cases hl : lo = a
  · have none : (ZRange.run lo hi).inter (.run 0 (a - 1)) = .empty := by
      simp [ZRange.inter]
      omega
    rw [if_neg h0, none, hl]
    rfl
  · have below : (ZRange.run lo hi).inter (.run 0 (a - 1)) = .run lo (a - 1) := by
      simp only [ZRange.inter]
      rw [if_pos (by omega)]
      congr 1 <;> omega
    rw [if_neg h0, below]
    simp only [ZRange.remove, Bool.or_eq_true, Bool.and_eq_true, decide_eq_true_eq]
    rw [if_neg (by omega), if_neg (by omega), if_pos (by omega)]
    congr 1
    omega

/-- Removing the zones of a range above one of its zones leaves the range up to that zone (R71). -/
theorem ZRange.remove_above {z lo hi a : Nat} (h : lo ≤ a) (ha : a ≤ hi) (hz : hi < z) :
    (ZRange.run lo hi).remove ((ZRange.run lo hi).inter (.run (a + 1) (z - 1))) = .run lo a := by
  by_cases hl : hi = a
  · have none : (ZRange.run lo hi).inter (.run (a + 1) (z - 1)) = .empty := by
      simp [ZRange.inter]
      omega
    rw [none, hl]
    rfl
  · have above : (ZRange.run lo hi).inter (.run (a + 1) (z - 1)) = .run (a + 1) hi := by
      simp only [ZRange.inter]
      rw [if_pos (by omega)]
      congr 1 <;> omega
    rw [above]
    simp only [ZRange.remove, Bool.or_eq_true, Bool.and_eq_true, decide_eq_true_eq]
    rw [if_neg (by omega), if_neg (by omega), if_neg (by omega), if_pos (by omega)]
    simp

/-! ### Span (R9) -/

theorem ZRange.span_ok {z : Nat} {q r : ZRange} (hq : q.ok z = true) (hr : r.ok z = true) : (q.span r).ok z = true := by
  cases q with
  | empty => exact hr
  | run a b =>
    cases r with
    | empty => exact hq
    | run c d =>
      simp only [ZRange.span, ZRange.run_ok] at *
      omega

theorem ZRange.inside_span (q r : ZRange) : q.inside (q.span r) = true := by
  cases q with
  | empty => rfl
  | run a b =>
    cases r with
    | empty => simp [ZRange.span]
    | run c d => simp [ZRange.span]

/-- The span of H and a range adjacent to it holds the zones of the two and no others, so what is disjoint from both is
disjoint from it (R8, R9, R83). -/
theorem ZRange.disjoint_span_of_adjacent {z : Nat} {e h q : ZRange} {side : Side} (adjacent : q.adjacent h side = true)
    (hok : h.ok z = true) (qok : q.ok z = true) (eok : e.ok z = true) (eh : e.overlaps h = false) (eq : e.overlaps q = false) :
    e.overlaps (h.span q) = false := by
  cases e with
  | empty => simp
  | run a b =>
    cases h with
    | empty => simpa [ZRange.span] using eq
    | run c d =>
      cases q with
      | empty => simpa [ZRange.span] using eh
      | run g k =>
        simp only [ZRange.span, ZRange.run_overlaps_run, ZRange.run_ok] at *
        cases side with
        | up =>
          simp [ZRange.adjacent] at adjacent
          omega
        | down =>
          simp [ZRange.adjacent] at adjacent
          omega

/-! ### Parts of a range from a named end (R9) -/

theorem ZRange.length_zonesFrom (lo hi : Nat) (side : Side) :
    ((ZRange.run lo hi).zonesFrom side).length = hi + 1 - lo := by
  cases side <;> simp [ZRange.zonesFrom]

theorem ZRange.mem_zonesFrom {r : ZRange} {side : Side} {z : Nat} : z ∈ r.zonesFrom side ↔ r.has z = true := by
  cases r with
  | empty => simp [ZRange.zonesFrom, ZRange.has]
  | run lo hi =>
    cases side <;> simp [ZRange.zonesFrom, ZRange.has, List.mem_range'_1] <;> omega

theorem ZRange.take_spec {r : ZRange} {side : Side} {n z : Nat} (ok : r.ok z = true)
    (hn : n ≤ (r.zonesFrom side).length) : (r.take side n).ok z = true ∧ (r.take side n).inside r = true := by
  cases r with
  | empty => exact ⟨rfl, rfl⟩
  | run lo hi =>
    rw [ZRange.length_zonesFrom] at hn
    rw [ZRange.run_ok] at ok
    cases n with
    | zero => cases side <;> exact ⟨rfl, rfl⟩
    | succ k =>
      cases side <;> simp only [ZRange.take, ZRange.run_ok, ZRange.run_inside_run] <;> omega

/-- A leading part of a range of the rail is one, and lies inside the range (R9). -/
theorem ZRange.leadingPart_spec {r : ZRange} {z : Nat} (ok : r.ok z = true) (side : Side) (test : Nat → Bool) :
    (r.leadingPart side test).ok z = true ∧ (r.leadingPart side test).inside r = true :=
  ZRange.take_spec ok (List.takeWhile_sublist test).length_le

end Sys2Proof

namespace Sys2Proof.Machine

/-! ### Clipping (R52) -/

theorem clip_ok {z : Nat} {h announced : ZRange} (ok : announced.ok z = true) (occupied : ZRange) :
    (clip h announced occupied).ok z = true := by
  unfold clip
  split
  case isFalse => exact ok
  case isTrue overlap =>
    cases announced with
    | empty => simp at overlap
    | run lo hi =>
      cases h with
      | empty => simp at overlap
      | run hlo hhi =>
        have meet : lo ≤ hhi ∧ hlo ≤ hi := by simpa [ZRange.overlaps] using overlap
        rw [ZRange.run_ok] at ok
        have below : (partBelow (.run lo hi) (.run hlo hhi)).ok z = true := by
          simp only [partBelow]
          split <;> simp
          omega
        have above : (partAbove (.run lo hi) (.run hlo hhi)).ok z = true := by
          simp only [partAbove]
          split <;> simp
          omega
        split
        · exact above
        · exact below
        · split
          · exact above
          · exact below

/-- No zone of H is left in a clipped range (R52). -/
theorem clip_disjoint (h announced occupied : ZRange) : (clip h announced occupied).overlaps h = false := by
  unfold clip
  split
  case isFalse overlap => simpa using overlap
  case isTrue =>
    have below : (partBelow announced h).overlaps h = false := by
      cases announced <;> cases h <;> simp [partBelow]
      split <;> simp
      omega
    have above : (partAbove announced h).overlaps h = false := by
      cases announced <;> cases h <;> simp [partAbove]
      split <;> simp
    split
    · exact above
    · exact below
    · split
      · exact above
      · exact below

/-! ### The first zone taken (R65, R83) -/

theorem find?_reverse_range' {lo n z : Nat} {p : Nat → Bool} (h : (List.range' lo n).reverse.find? p = some z) :
    ∀ j, z < j → j < lo + n → p j = false := by
  induction n with
  | zero => simp at h
  | succ n ih =>
    rw [List.range'_1_concat, List.reverse_append, List.reverse_singleton, List.singleton_append] at h
    intro j hz hj
    by_cases last : p (lo + n) = true
    · rw [List.find?_cons_of_pos last] at h
      simp only [Option.some.injEq] at h
      omega
    · rw [List.find?_cons_of_neg last] at h
      by_cases hl : j = lo + n
      · simpa [hl] using last
      · exact ih h j hz (by omega)

/-- The zones of a range that come before the first taken one, seen from H, are a part of the range in which no zone is
taken (R83). -/
theorem splitAt_fst_spec {r : ZRange} {side : Side} {w z : Nat} {p : Nat → Bool} (ok : r.ok w = true)
    (first : (r.zonesFrom (nearEnd side)).find? p = some z) :
    (splitAt side r z).1.ok w = true ∧ (splitAt side r z).1.inside r = true ∧
      ∀ j, (splitAt side r z).1.has j = true → p j = false := by
  have within : r.has z = true := ZRange.mem_zonesFrom.1 (List.mem_of_find?_eq_some first)
  cases r with
  | empty => simp [ZRange.has] at within
  | run lo hi =>
    simp only [ZRange.has, Bool.and_eq_true, decide_eq_true_eq] at within
    rw [ZRange.run_ok] at ok
    cases side with
    | up =>
      obtain ⟨-, -, before⟩ := List.find?_range'_eq_some.1 first
      simp only [splitAt]
      split_ifs with hz
      · refine ⟨by simp; omega, by simp; omega, fun j hj => ?_⟩
        simp only [ZRange.has, Bool.and_eq_true, decide_eq_true_eq] at hj
        simpa using before j hj.1 (by omega)
      · exact ⟨rfl, rfl, by simp [ZRange.has]⟩
    | down =>
      have before := find?_reverse_range' first
      simp only [splitAt]
      split_ifs with hz
      · refine ⟨by simp; omega, by simp; omega, fun j hj => ?_⟩
        simp only [ZRange.has, Bool.and_eq_true, decide_eq_true_eq] at hj
        exact before j (by omega) (by omega)
      · exact ⟨rfl, rfl, by simp [ZRange.has]⟩

/-- The rest of a range, from the first taken zone on, is a part of the range too (R83). -/
theorem splitAt_snd_inside {r : ZRange} {side : Side} {z : Nat} (within : r.has z = true) :
    (splitAt side r z).2.inside r = true := by
  cases r with
  | empty => rfl
  | run lo hi =>
    simp only [ZRange.has, Bool.and_eq_true, decide_eq_true_eq] at within
    cases side <;> simp [splitAt] <;> omega

end Sys2Proof.Machine

/-! PROOFS. The laws of the part sorted by what they read, so that an operation has to be looked at only for the laws whose
fields it writes. Together they are PartLaw (R65, R120). -/

namespace Sys2Proof.Machine

/-! ### The laws of the records, which read nothing of the engine and the latch -/

/-- The laws that tie the claim and the join to the outgoing queue and to the own window (R37, R39, R68, R74, R101, R102). -/
structure TiesLaw (s : State) : Prop where
  queue : s.QueueLaw
  claimOnlyJoined : s.memb.state ≠ .joined → s.claimInFlight = false
  claimEntry : s.access.queue.any QEntry.isClaim = true → ∃ r, s.resv.claim = some r ∧ r.phase = .queued
  joinOnlyJoining : s.memb.join.isSome = true → s.memb.state = .joining
  outstanding : s.access.ownWindow = s.ownFrameOut
  joinEntry : s.access.queue.any QEntry.isJoin = true → ∃ r, s.memb.join = some r ∧ r.phase = .queued

/-- The law of a claim that waits, if one does (R67, R79, R81). -/
def WaitingLaw (s : State) : Prop :=
  ∀ r, s.resv.claim = some r → r.phase = .waiting → ClaimLaw s.port.cfg.z s.resv.held r

/-- The laws of the directory, but for the tie of an eviction to its window (R48, R56, R58, R62, R65). -/
structure PeersLaw (s : State) : Prop where
  entriesOk : ∀ a, (s.entry a).held.ok s.port.cfg.z = true ∧ (s.entry a).occupied.ok s.port.cfg.z = true
  dormant : s.memb.state = .dormant → s.dir.eviction = none ∧ ∀ a, (s.entry a).held = .empty ∧ (s.entry a).occupied = .empty
  directory : s.DirectoryLaw
  absent : s.dir.eviction = none → ∀ a, (s.entry a).state ≠ .evicting
  target : ∀ r, s.dir.eviction = some r → ∀ a, (s.entry a).state = .evicting ↔ a = r.target
  returns : ∀ r, s.dir.eviction = some r → r.returnState ≠ .evicting
  joiner : ∀ r, s.dir.eviction = some r → r.returnState = .joining →
    (s.entry r.target).occupied.overlaps s.resv.held = false

/-- The laws of the membership, of H and of the configuration (R16, R98, R102, R149, R151, R174). -/
structure MemberLaw (s : State) : Prop where
  heldOnlyJoined : s.memb.state ≠ .joined → s.resv.held = .empty
  heldOk : s.resv.held.ok s.port.cfg.z = true
  heldDormant : s.fault.phase ≠ .running → s.memb.state = .dormant
  receiverOff : s.memb.state = .dormant ∨ s.memb.state = .evicted → s.line.rx = .off
  started : s.memb.state ≠ .dormant → s.straps.address.val < s.port.cfg.n ∧ s.port.cfg.w + 2 ≤ s.port.cfg.z
  config : ConfigLaw s.port.cfg
  join : ∀ r, s.memb.join = some r → JoinLaw s.port.cfg.z r

/-- The laws of the records together. -/
structure RecordsLaw (s : State) : Prop where
  ties : TiesLaw s
  waiting : WaitingLaw s
  peers : PeersLaw s
  member : MemberLaw s

/-! ### The laws of the engine -/

/-- The laws that tie the engine to the membership, to the latch and to H (R97, R120, R121, R142, R166). -/
structure DriveLaw (s : State) : Prop where
  activeOnlyJoined : engineActive s.motion.state = true → s.memb.state = .joined
  haltedIffFault : s.motion.state = .halted ↔ s.fault.cause.isSome = true
  faultOnlyMember : s.fault.cause.isSome = true → s.memb.state = .joined ∨ s.memb.state = .evicted
  evictedCause : s.memb.state = .evicted → s.fault.cause = some .evicted
  pulseOnlyDriven : s.motion.stepHigh = true → s.memb.state = .joined ∧ s.fault.cause = none
  setupOnlyStepping : s.motion.setupTimer.running = true → s.motion.state = .moving ∨ s.motion.state = .relocating
  heldJoined : s.memb.state = .joined → s.resv.held ≠ .empty
  containment : ContainmentLaw s
  setUpFits : s.motion.setupTimer.running = true → s.motion.state = .moving → s.stepFits = true
  setUpSteps : s.motion.setupTimer.running = true → s.motion.state = .relocating →
    ∃ r, s.motion.reloc = some r ∧ r.phase = .stepping

/-- A need asks for zones of the rail outside H (R73). -/
def NeedOk (z : Nat) (h : ZRange) (need : Option Need) : Prop :=
  ∀ n, need = some n → n.lo ≤ n.hi ∧ n.hi < z ∧ (ZRange.run n.lo n.hi).overlaps h = false

/-- The law of the claim need (R73, R119). -/
structure NeedLaw (s : State) : Prop where
  asks : NeedOk s.port.cfg.z s.resv.held s.motion.need
  dormant : s.memb.state = .dormant → s.motion.need = none

/-- The laws of the records and of the engine together: what every shared operation keeps. -/
structure UnitsLaw (s : State) : Prop where
  records : RecordsLaw s
  drive : DriveLaw s
  need : NeedLaw s

/-- An eviction pends only while the EVICT window is open (R58, R62). It fails between the close of a window and its
report to the directory, and nowhere else. -/
def EvictionWindow (s : State) : Prop :=
  ∀ r, s.dir.eviction = some r → s.access.window.isOpen = true ∧ s.access.window.kind = some .evict

/-! ### The sorted laws are the law of the part -/

theorem PartLaw.evictionWindow {s : State} (h : PartLaw s) : EvictionWindow s := h.rail.eviction.window

theorem PartLaw.units {s : State} (h : PartLaw s) : UnitsLaw s where
  records :=
    { ties := ⟨h.queue, h.station.claimOnlyJoined, h.station.claimEntry, h.station.joinOnlyJoining,
        h.ownWindow.outstanding, h.ownWindow.joinEntry⟩
      waiting := h.rail.claim
      peers :=
        { entriesOk := h.rail.entriesOk
          dormant := fun hd => have ⟨eviction, _, entries⟩ := h.rail.dormant hd; ⟨eviction, entries⟩
          directory := h.rail.directory
          absent := h.rail.eviction.absent
          target := h.rail.eviction.target
          returns := h.rail.eviction.returns
          joiner := h.rail.eviction.joiner }
      member := ⟨h.station.heldOnlyJoined, h.rail.heldOk, h.station.heldDormant, h.station.receiverOff, h.rail.started,
        h.rail.config, h.rail.join⟩ }
  drive := ⟨h.station.activeOnlyJoined, h.station.haltedIffFault, h.station.faultOnlyMember, h.station.evictedCause,
    h.station.pulseOnlyDriven, h.station.setupOnlyStepping, h.rail.heldJoined, h.rail.containment, h.rail.setUpFits,
    h.rail.setUpSteps⟩
  need := ⟨h.rail.need, fun hd => have ⟨_, need, _⟩ := h.rail.dormant hd; need⟩

theorem PartLaw.of_units {s : State} (event : s.EventLaw) (latch : LatchLaw s.fault) (window : WindowLaw s.access.window)
    (eviction : EvictionWindow s) (h : UnitsLaw s) : PartLaw s := by
  obtain ⟨⟨ties, waiting, peers, member⟩, drive, need⟩ := h
  exact
    { event, latch, window
      queue := ties.queue
      station :=
        { heldOnlyJoined := member.heldOnlyJoined
          claimOnlyJoined := ties.claimOnlyJoined
          claimEntry := ties.claimEntry
          joinOnlyJoining := ties.joinOnlyJoining
          activeOnlyJoined := drive.activeOnlyJoined
          haltedIffFault := drive.haltedIffFault
          faultOnlyMember := drive.faultOnlyMember
          evictedCause := drive.evictedCause
          pulseOnlyDriven := drive.pulseOnlyDriven
          setupOnlyStepping := drive.setupOnlyStepping
          heldDormant := member.heldDormant
          receiverOff := member.receiverOff }
      ownWindow := ⟨ties.outstanding, ties.joinEntry⟩
      rail :=
        { config := member.config
          started := member.started
          heldOk := member.heldOk
          heldJoined := drive.heldJoined
          entriesOk := peers.entriesOk
          dormant := fun hd =>
            have ⟨eviction, entries⟩ := peers.dormant hd
            ⟨eviction, need.dormant hd, entries⟩
          directory := peers.directory
          eviction := ⟨peers.absent, peers.target, eviction, peers.returns, peers.joiner⟩
          containment := drive.containment
          setUpFits := drive.setUpFits
          setUpSteps := drive.setUpSteps
          claim := waiting
          need := need.asks
          join := member.join } }

/-! ### A law holds of every state that reads the same -/

/-- Two states have the same records, as far as a law reads them. -/
def SameRecords (s t : State) : Prop :=
  t.access.queue = s.access.queue ∧ t.access.ownWindow = s.access.ownWindow ∧ t.resv.claim = s.resv.claim ∧
  t.resv.held = s.resv.held ∧ t.memb.state = s.memb.state ∧ t.memb.join = s.memb.join ∧ t.dir = s.dir ∧
  t.port.cfg = s.port.cfg ∧ t.straps = s.straps ∧ t.line.rx = s.line.rx ∧ t.fault.phase = s.fault.phase

/-- Two states have the same engine, but for the need, the target and the timers. -/
def SameDrive (s t : State) : Prop :=
  t.motion.state = s.motion.state ∧ t.motion.p = s.motion.p ∧ t.motion.known = s.motion.known ∧
  t.motion.direction = s.motion.direction ∧ t.motion.reloc = s.motion.reloc ∧ t.motion.stepHigh = s.motion.stepHigh ∧
  t.motion.setupTimer.running = s.motion.setupTimer.running ∧ t.memb.state = s.memb.state ∧
  t.fault.cause = s.fault.cause ∧ t.resv.held = s.resv.held ∧ t.port.cfg = s.port.cfg

/-- Two states have the same need, and it is read the same. -/
def SameNeed (s t : State) : Prop :=
  t.motion.need = s.motion.need ∧ t.resv.held = s.resv.held ∧ t.port.cfg = s.port.cfg ∧ t.memb.state = s.memb.state

section
variable {s t : State}

theorem TiesLaw.congr (h : TiesLaw s) (queue : t.access.queue = s.access.queue)
    (own : t.access.ownWindow = s.access.ownWindow) (claim : t.resv.claim = s.resv.claim)
    (state : t.memb.state = s.memb.state) (join : t.memb.join = s.memb.join) : TiesLaw t where
  queue := by simpa [State.QueueLaw, queue] using h.queue
  claimOnlyJoined := by simpa [State.claimInFlight, claim, state] using h.claimOnlyJoined
  claimEntry := by simpa [queue, claim] using h.claimEntry
  joinOnlyJoining := by simpa [join, state] using h.joinOnlyJoining
  outstanding := by simpa [State.ownFrameOut, State.claimWaiting, own, claim, join] using h.outstanding
  joinEntry := by simpa [queue, join] using h.joinEntry

theorem PeersLaw.congr (h : PeersLaw s) (eviction : t.dir.eviction = s.dir.eviction)
    (entries : ∀ a, (t.entry a).state = (s.entry a).state ∧ (t.entry a).held = (s.entry a).held ∧
      (t.entry a).occupied = (s.entry a).occupied)
    (held : t.resv.held = s.resv.held) (cfg : t.port.cfg = s.port.cfg) (state : t.memb.state = s.memb.state) :
    PeersLaw t where
  entriesOk a := by simpa [entries, cfg] using h.entriesOk a
  dormant := by simpa [entries, eviction, state] using h.dormant
  directory a := by simpa [State.extent, PeerEntry.extent, entries, held] using h.directory a
  absent := by simpa [entries, eviction] using h.absent
  target := by simpa [entries, eviction] using h.target
  returns := by simpa [eviction] using h.returns
  joiner := by simpa [entries, eviction, held] using h.joiner

theorem MemberLaw.congr (h : MemberLaw s) (state : t.memb.state = s.memb.state) (join : t.memb.join = s.memb.join)
    (held : t.resv.held = s.resv.held) (cfg : t.port.cfg = s.port.cfg) (straps : t.straps = s.straps)
    (rx : t.line.rx = s.line.rx) (phase : t.fault.phase = s.fault.phase) : MemberLaw t where
  heldOnlyJoined := by simpa [state, held] using h.heldOnlyJoined
  heldOk := by simpa [held, cfg] using h.heldOk
  heldDormant := by simpa [phase, state] using h.heldDormant
  receiverOff := by simpa [state, rx] using h.receiverOff
  started := by simpa [state, straps, cfg] using h.started
  config := by simpa [cfg] using h.config
  join := by simpa [join, cfg] using h.join

theorem RecordsLaw.congr (h : RecordsLaw s) (same : SameRecords s t) : RecordsLaw t := by
  obtain ⟨queue, own, claim, held, state, join, dir, cfg, straps, rx, phase⟩ := same
  exact
    { ties := h.ties.congr queue own claim state join
      waiting := by simpa [WaitingLaw, claim, held, cfg] using h.waiting
      peers := h.peers.congr (by rw [dir]) (by simp [State.entry, dir]) held cfg state
      member := h.member.congr state join held cfg straps rx phase }

theorem ContainmentLaw.congr (h : ContainmentLaw s) (state : t.motion.state = s.motion.state)
    (p : t.motion.p = s.motion.p) (known : t.motion.known = s.motion.known) (reloc : t.motion.reloc = s.motion.reloc)
    (held : t.resv.held = s.resv.held) (cfg : t.port.cfg = s.port.cfg) : ContainmentLaw t where
  knownState := by simpa [state, known] using h.knownState
  placed := by simpa [state, known] using h.placed
  legal := by simpa [p, known, cfg] using h.legal
  inside := by simpa [State.occupied, p, known, cfg, held] using h.inside
  relocating := by simpa [state, reloc, cfg, held] using h.relocating

theorem DriveLaw.congr (h : DriveLaw s) (same : SameDrive s t) : DriveLaw t := by
  obtain ⟨state, p, known, direction, reloc, stepHigh, setup, memb, cause, held, cfg⟩ := same
  exact
    { activeOnlyJoined := by simpa [state, memb] using h.activeOnlyJoined
      haltedIffFault := by simpa [state, cause] using h.haltedIffFault
      faultOnlyMember := by simpa [cause, memb] using h.faultOnlyMember
      evictedCause := by simpa [cause, memb] using h.evictedCause
      pulseOnlyDriven := by simpa [stepHigh, memb, cause] using h.pulseOnlyDriven
      setupOnlyStepping := by simpa [setup, state] using h.setupOnlyStepping
      heldJoined := by simpa [memb, held] using h.heldJoined
      containment := h.containment.congr state p known reloc held cfg
      setUpFits := by
        simpa [setup, state, State.stepFits, State.candidate, p, direction, held, cfg] using h.setUpFits
      setUpSteps := by simpa [setup, state, reloc] using h.setUpSteps }

theorem NeedLaw.congr (h : NeedLaw s) (same : SameNeed s t) : NeedLaw t := by
  obtain ⟨need, held, cfg, memb⟩ := same
  exact ⟨by simpa [need, held, cfg] using h.asks, by simpa [need, memb] using h.dormant⟩

theorem UnitsLaw.congr (h : UnitsLaw s) (records : SameRecords s t) (drive : SameDrive s t) (need : SameNeed s t) :
    UnitsLaw t :=
  ⟨h.records.congr records, h.drive.congr drive, h.need.congr need⟩

end

end Sys2Proof.Machine

/-! PROOFS. The shared operations of the queue, of the claim and of the engine keep the laws of the records, whatever the
engine does (R37, R69 to R75, R85, R134, R141, R142). -/

namespace Sys2Proof.Machine

/-! ### What an offer can put in the outgoing queue -/

theorem takeOffer_any {q : List QEntry} {e : QEntry} {f : QEntry → Bool}
    (h : (takeOffer q e).1.any f = true) : q.any f = true ∨ f e = true := by
  have shorter {p : List QEntry} (part : List.Sublist p q) (hp : (p ++ [e]).any f = true) :
      q.any f = true ∨ f e = true := by
    simp only [List.any_append, List.any_cons, List.any_nil, Bool.or_false, Bool.or_eq_true] at hp
    refine hp.imp_left fun inPart => ?_
    obtain ⟨x, hx, fx⟩ := List.any_eq_true.1 inPart
    exact List.any_eq_true.2 ⟨x, part.subset hx, fx⟩
  unfold takeOffer at h
  split at h
  · exact shorter (List.Sublist.refl q) h
  split at h
  · exact .inl h
  split at h
  next hd => exact shorter (displace_spec hd).1 h
  split at h
  next hd => exact shorter (displace_spec hd).1 h
  · exact .inl h

/-- The queue holds after an offer what it held, and at most the entry offered; a merged RELEASE stays a RELEASE
(R37, R38). -/
theorem offerTo_any {q : List QEntry} {e : QEntry} {f : QEntry → Bool} (merge : ∀ x r, f (x.mergeRelease r) = f x)
    (h : (offerTo q e).1.any f = true) : q.any f = true ∨ f e = true := by
  unfold offerTo at h
  split at h
  · split at h
    · exact .inl h
    · exact takeOffer_any h
  · split at h
    · exact .inl h
    · exact takeOffer_any h
  · split at h
    · exact .inl h
    · exact takeOffer_any h
  · split at h
    · split at h
      · refine .inl ?_
        obtain ⟨y, hy, fy⟩ := List.any_eq_true.1 h
        obtain ⟨x, hx, rfl⟩ := List.mem_map.1 hy
        refine List.any_eq_true.2 ⟨x, hx, ?_⟩
        split at fy
        · rwa [merge] at fy
        · exact fy
      · exact takeOffer_any h
    · exact takeOffer_any h
  · exact takeOffer_any h

theorem QEntry.isClaim_mergeRelease (e : QEntry) (r : ZRange) : (e.mergeRelease r).isClaim = e.isClaim := by
  unfold QEntry.mergeRelease
  split
  next he => simp [QEntry.isClaim, he]
  · rfl

theorem QEntry.isJoin_mergeRelease (e : QEntry) (r : ZRange) : (e.mergeRelease r).isJoin = e.isJoin := by
  unfold QEntry.mergeRelease
  split
  next he => simp [QEntry.isJoin, he]
  · rfl

section
variable {s : State}

theorem TiesLaw.offer (h : TiesLaw s) {e : QEntry}
    (claim : e.isClaim = true → ∃ r, s.resv.claim = some r ∧ r.phase = .queued)
    (join : e.isJoin = true → ∃ r, s.memb.join = some r ∧ r.phase = .queued) : TiesLaw (s.offer e) where
  queue := s.offer_queueLimits e h.queue
  claimOnlyJoined := by simpa [State.claimInFlight] using h.claimOnlyJoined
  claimEntry hq := by
    simpa using (offerTo_any QEntry.isClaim_mergeRelease hq).elim h.claimEntry claim
  joinOnlyJoining := by simpa using h.joinOnlyJoining
  outstanding := by simpa [State.ownFrameOut, State.claimWaiting] using h.outstanding
  joinEntry hq := by
    simpa using (offerTo_any QEntry.isJoin_mergeRelease hq).elim h.joinEntry join

/-- The claim record is replaced: no CLAIM waits for one that is not QUEUED, and it waits exactly if the one before did. -/
theorem TiesLaw.setResv (h : TiesLaw s) {x : Reservation}
    (inFlight : s.memb.state ≠ .joined → (s.setResv x).claimInFlight = false)
    (entry : s.access.queue.any QEntry.isClaim = true → ∃ r, x.claim = some r ∧ r.phase = .queued)
    (waits : (s.setResv x).claimWaiting = s.claimWaiting) : TiesLaw (s.setResv x) where
  queue := h.queue
  claimOnlyJoined := inFlight
  claimEntry := entry
  joinOnlyJoining := h.joinOnlyJoining
  outstanding := by
    have := h.outstanding
    simpa [State.ownFrameOut, waits] using this
  joinEntry := h.joinEntry

/-! ### The records through the operations of the queue and of the claim -/

theorem RecordsLaw.queueEvent (h : RecordsLaw s) (e : Event) : RecordsLaw (s.queueEvent e) :=
  h.congr (by simp [SameRecords])

theorem RecordsLaw.setMotion (h : RecordsLaw s) (x : Motion) : RecordsLaw (s.setMotion x) :=
  h.congr (by simp [SameRecords])

theorem RecordsLaw.setFault (h : RecordsLaw s) {x : FaultUnit} (phase : x.phase = s.fault.phase) :
    RecordsLaw (s.setFault x) :=
  h.congr (by simp [SameRecords, phase])

/-- The reservation unit changes neither H nor its claim. -/
theorem RecordsLaw.setResv (h : RecordsLaw s) {x : Reservation} (held : x.held = s.resv.held)
    (claim : x.claim = s.resv.claim) : RecordsLaw (s.setResv x) :=
  h.congr (by simp [SameRecords, held, claim])

theorem RecordsLaw.offerAny (h : RecordsLaw s) {e : QEntry}
    (claim : e.isClaim = true → ∃ r, s.resv.claim = some r ∧ r.phase = .queued)
    (join : e.isJoin = true → ∃ r, s.memb.join = some r ∧ r.phase = .queued) : RecordsLaw (s.offer e) where
  ties := h.ties.offer claim join
  waiting := by simpa [WaitingLaw] using h.waiting
  peers := h.peers.congr (by simp) (by simp [State.entry]) (by simp) (by simp) (by simp)
  member := h.member.congr (by simp) (by simp) (by simp) (by simp) (by simp) (by simp) (by simp)

/-- An entry that is neither a CLAIM nor a JOIN is offered. -/
theorem RecordsLaw.offer (h : RecordsLaw s) {e : QEntry} (claim : e.isClaim = false) (join : e.isJoin = false) :
    RecordsLaw (s.offer e) :=
  h.offerAny (by simp [claim]) (by simp [join])

theorem State.mayFormClaim_spec (may : s.mayFormClaim = true) :
    s.motion.need.isSome = true ∧ s.claimInFlight = false ∧ s.resv.rearm.waiting = false ∧ s.memb.state = .joined := by
  simpa [State.mayFormClaim, and_assoc] using may

theorem State.claimWaiting_of_not_inFlight (h : s.claimInFlight = false) : s.claimWaiting = false := by
  unfold State.claimInFlight at h
  unfold State.claimWaiting
  split at h
  · rfl
  · simpa using (Bool.or_eq_false_iff.1 h).2

theorem RecordsLaw.formClaim (h : RecordsLaw s) : RecordsLaw s.formClaim := by
  unfold State.formClaim
  split
  case isFalse => exact h
  case isTrue may =>
    obtain ⟨-, free, -, joined⟩ := State.mayFormClaim_spec may
    have formed : RecordsLaw (s.setResv { s.resv with claim := some freshClaim }) :=
      { ties := h.ties.setResv (fun other => absurd joined other) (fun _ => ⟨freshClaim, rfl, rfl⟩)
          (by rw [State.claimWaiting_of_not_inFlight free]; rfl)
        waiting := by simp [WaitingLaw, freshClaim]
        peers := h.peers.congr rfl (fun _ => ⟨rfl, rfl, rfl⟩) rfl rfl rfl
        member := h.member.congr rfl rfl rfl rfl rfl rfl rfl }
    exact formed.offerAny (fun _ => ⟨freshClaim, rfl, rfl⟩) (by simp [QEntry.isJoin, claimEntry])

theorem RecordsLaw.arm (h : RecordsLaw s) : RecordsLaw s.arm :=
  RecordsLaw.formClaim (h.setResv rfl rfl)

theorem RecordsLaw.notice (h : RecordsLaw s) (a : Addr) : RecordsLaw (s.notice a) := by
  unfold State.notice
  split
  · exact h.arm
  · exact h

theorem RecordsLaw.setNeed (h : RecordsLaw s) (new : Option Need) : RecordsLaw (s.setNeed new) := by
  unfold State.setNeed
  have stored := h.setMotion { s.motion with
    need := new, lastNeedSide := match new with | some n => some n.side | none => s.motion.lastNeedSide }
  dsimp only
  split
  · split
    · exact RecordsLaw.arm (stored.setResv rfl rfl)
    · exact stored.formClaim
  · exact stored

theorem RecordsLaw.updateNeed (h : RecordsLaw s) : RecordsLaw s.updateNeed := h.setNeed _

/-- A claim record changes without a change of its phase or of what it asks for. -/
theorem RecordsLaw.amendClaim (h : RecordsLaw s) {r r' : ClaimRecord} (claim : s.resv.claim = some r)
    (phase : r'.phase = r.phase)
    (law : ClaimLaw s.port.cfg.z s.resv.held r → ClaimLaw s.port.cfg.z s.resv.held r') :
    RecordsLaw (s.setResv { s.resv with claim := some r' }) where
  ties := h.ties.setResv (by simpa [State.claimInFlight, claim, phase] using h.ties.claimOnlyJoined)
    (by simpa [claim, phase] using h.ties.claimEntry) (by simp [State.claimWaiting, claim, phase])
  waiting := by
    rintro _ ⟨⟩ waits
    exact law (h.waiting r claim (phase ▸ waits))
  peers := h.peers.congr rfl (fun _ => ⟨rfl, rfl, rfl⟩) rfl rfl rfl
  member := h.member.congr rfl rfl rfl rfl rfl rfl rfl

theorem RecordsLaw.orphanClaim (h : RecordsLaw s) : RecordsLaw s.orphanClaim := by
  unfold State.orphanClaim
  split
  · exact h
  next r claim =>
    split
    · exact h.amendClaim claim rfl fun law => ⟨law.side, law.requested, law.grant⟩
    · exact h

/-! ### The records where H shrinks -/

theorem RecordsLaw.shrink (h : RecordsLaw s) {q : ZRange} (part : q.inside s.resv.held = true)
    (ok : q.ok s.port.cfg.z = true) : RecordsLaw (s.setResv { s.resv with held := q }) where
  ties := h.ties.congr rfl rfl rfl rfl rfl
  waiting r claim waits :=
    have law := h.waiting r claim waits
    have ⟨nonempty, rail, apart⟩ := law.requested
    ⟨law.side, ⟨nonempty, rail, ZRange.disjoint_of_inside_right part apart⟩, law.grant⟩
  peers :=
    { entriesOk := h.peers.entriesOk
      dormant := h.peers.dormant
      directory := fun a => ZRange.disjoint_of_inside_right part (h.peers.directory a)
      absent := h.peers.absent
      target := h.peers.target
      returns := h.peers.returns
      joiner := fun r hr joining => ZRange.disjoint_of_inside_right part (h.peers.joiner r hr joining) }
  member :=
    { h.member with
      heldOnlyJoined := fun other => by
        have none := h.member.heldOnlyJoined other
        cases q with
        | empty => rfl
        | run lo hi => simp [none, ZRange.inside] at part
      heldOk := ok }

theorem RecordsLaw.onHeldChange (h : RecordsLaw s) : RecordsLaw s.onHeldChange := by
  unfold State.onHeldChange
  refine RecordsLaw.updateNeed ?_
  split
  · split
    · exact h.setMotion _
    · exact h
  · split
    · split
      · exact h.setMotion _
      · exact h
    · exact h
  all_goals exact h

theorem RecordsLaw.release (h : RecordsLaw s) (r : ZRange) (side : Side) : RecordsLaw (s.release r side) := by
  unfold State.release
  split
  · exact h
  have less : RecordsLaw
      ((s.setResv { s.resv with held := s.resv.held.remove r }).offer (releaseEntry r side)) :=
    (h.shrink (ZRange.remove_inside _ r) (ZRange.remove_ok h.member.heldOk r)).offer rfl rfl
  dsimp only
  split
  · exact less
  · exact less.onHeldChange

theorem RecordsLaw.trim (h : RecordsLaw s) : RecordsLaw s.trim := by
  unfold State.trim
  split
  · exact h
  · exact (h.release _ .down).release _ .up

/-! ### The records through the ends of moves and relocates -/

theorem RecordsLaw.endMove (h : RecordsLaw s) (reason : EndReason) : RecordsLaw (s.endMove reason) := by
  unfold State.endMove
  have stopped := h.setMotion { s.motion.stopStepping with stallTimer := Timer.stopped }
  dsimp only
  split
  · exact ((stopped.trim.setMotion _).updateNeed.orphanClaim).queueEvent _
  · exact ((stopped.setMotion _).updateNeed.orphanClaim).queueEvent _

theorem RecordsLaw.endRelocate (h : RecordsLaw s) (reason : EndReason) (after : MotionState) :
    RecordsLaw (s.endRelocate reason after) := by
  unfold State.endRelocate
  split
  · exact h.setMotion _
  · exact ((((h.setMotion _).setNeed none).orphanClaim).setMotion _).queueEvent _

theorem RecordsLaw.forceHalt (h : RecordsLaw s) (cause : FaultCause) : RecordsLaw (s.forceHalt cause) := by
  unfold State.forceHalt
  have cut := h.setMotion { s.motion.cutPulse with known := s.motion.known && !cause.losesPosition }
  dsimp only
  split
  · exact (cut.setMotion _).endMove .fault
  · exact (cut.setMotion _).endMove .fault
  · exact cut.endRelocate .fault .halted
  · exact (cut.setMotion _).updateNeed
  · exact (cut.setMotion _).updateNeed
  · exact cut

theorem RecordsLaw.reportFault (h : RecordsLaw s) (r : FaultReport) : RecordsLaw (s.reportFault r) := by
  unfold State.reportFault
  split
  · exact h
  next f taken => exact ((h.setFault (FaultUnit.take_keeps taken).1).queueEvent _).forceHalt _

end

end Sys2Proof.Machine

/-! PROOFS. The engine's shared operations keep its laws: the need asks for zones outside H, and the carriage stands inside H
through every change of H, of the move, of the relocate and of the latch (R69 to R73, R120, R127, R128, R134 to R142). -/

namespace Sys2Proof.Machine

/-! ### The configuration and the occupied range (R2, R5, R149) -/

theorem ConfigLaw.bounds {c : Config} (h : ConfigLaw c) : 16 ≤ c.s ∧ 1 ≤ c.w ∧ c.w ≤ 4 ∧ 8 ≤ c.z ∧ c.z ≤ 240 := by
  have ⟨zone, _⟩ := h 2 16 4096 c.s rfl rfl
  have ⟨one, four⟩ := h 3 1 4 c.w rfl rfl
  have ⟨eight, most⟩ := h 1 8 240 c.z rfl rfl
  exact ⟨zone, one, four, eight, most⟩

/-- The carriage at a legal position occupies zones of the rail (R2, R5). -/
theorem occupiedAt_legal {c : Config} {p : Nat} (cfg : ConfigLaw c) (legal : p ≤ maxPosition c) :
    p / c.s ≤ (p + c.w * c.s - 1) / c.s ∧ (p + c.w * c.s - 1) / c.s < c.z := by
  obtain ⟨hs, hw, hw4, hz, -⟩ := cfg.bounds
  have top : p + c.w * c.s ≤ c.z * c.s := by
    unfold maxPosition at legal
    calc p + c.w * c.s ≤ (c.z - c.w) * c.s + c.w * c.s := by omega
      _ = c.z * c.s := by rw [← Nat.add_mul, Nat.sub_add_cancel (by omega)]
  have long : c.s ≤ c.w * c.s := Nat.le_mul_of_pos_left _ hw
  refine ⟨Nat.div_le_div_right (by omega), ?_⟩
  rw [Nat.div_lt_iff_lt_mul (by omega)]
  omega

theorem occupiedAt_of_legal {c : Config} {p : Nat} (legal : p ≤ maxPosition c) :
    occupiedAt c p = some (.run (p / c.s) ((p + c.w * c.s - 1) / c.s)) := if_pos legal

/-- A recorded occupied range is that of a legal position (R2, R5). -/
theorem occupiedAt_eq_some {c : Config} {p : Nat} {o : ZRange} (h : occupiedAt c p = some o) :
    p ≤ maxPosition c ∧ o = .run (p / c.s) ((p + c.w * c.s - 1) / c.s) := by
  unfold occupiedAt at h
  split at h
  · exact ⟨‹_›, (Option.some.inj h).symm⟩
  · simp at h

theorem State.occupied_of_known {s : State} (known : s.motion.known = true)
    (legal : s.motion.p ≤ maxPosition s.port.cfg) :
    s.occupied = .run (s.motion.p / s.port.cfg.s)
      ((s.motion.p + s.port.cfg.w * s.port.cfg.s - 1) / s.port.cfg.s) := by
  simp [State.occupied, known, occupiedAt_of_legal legal]

theorem fitsIn_iff {c : Config} {candidate : Option Nat} {h : ZRange} :
    fitsIn c candidate h = true ↔ ∃ p o, candidate = some p ∧ occupiedAt c p = some o ∧ o.inside h = true := by
  unfold fitsIn
  cases candidate with
  | none => simp
  | some p => cases ho : occupiedAt c p <;> simp [ho]

/-! ### The need that the engine computes (R73, R119, R127) -/

theorem moveNeed_ok {c : Config} {h : ZRange} (cfg : ConfigLaw c) (hok : h.ok c.z = true) (p target : Nat) (side : Side) :
    NeedOk c.z h (moveNeed c p target side h) := by
  intro n hn
  unfold moveNeed at hn
  split at hn
  case h_2 => simp at hn
  case h_1 tlo thi olo ohi hlo hhi goal _ =>
    have ⟨legal, ends⟩ := occupiedAt_eq_some goal
    simp only [ZRange.run.injEq] at ends
    have ⟨_, top⟩ := occupiedAt_legal cfg legal
    rw [← ends.2] at top
    rw [ZRange.run_ok] at hok
    cases side with
    | up =>
      dsimp only at hn
      split at hn
      · obtain rfl := Option.some.inj hn
        refine ⟨by dsimp only; omega, by dsimp only; omega, ?_⟩
        rw [ZRange.run_overlaps_run]
        dsimp only
        omega
      · simp at hn
    | down =>
      dsimp only at hn
      split at hn
      · obtain rfl := Option.some.inj hn
        refine ⟨by dsimp only; omega, by dsimp only; omega, ?_⟩
        rw [ZRange.run_overlaps_run]
        dsimp only
        omega
      · simp at hn

/-- A relocate that waits asks for the one zone of its relocate range that H lacks (R136, R137). -/
theorem relocNeed_ok {c : Config} {r : RelocRecord} {h : ZRange} (cfg : ConfigLaw c)
    (range : (relocateRange c r.k r.side).isSome = true) (rail : r.k < c.z)
    (stands : (conservativeRange c r.k).inside h = true)
    (waits : r.phase = .claiming → relocFits c r h = false) : NeedOk c.z h (relocNeed c r) := by
  obtain ⟨-, hw, -, hz, -⟩ := cfg.bounds
  intro n hn
  unfold relocNeed at hn
  cases h with
  | empty => simp [conservativeRange, ZRange.inside] at stands
  | run hlo hhi =>
    simp only [conservativeRange, ZRange.run_inside_run] at stands
    split at hn
    · simp at hn
    next claiming side =>
      obtain rfl := Option.some.inj hn
      have lacks := waits claiming
      have one : 1 ≤ r.k := by
        by_contra zero
        simp [side, relocateRange, zero] at range
      simp only [relocFits, relocateRange, side, if_pos one, ZRange.inside, Bool.and_eq_false_iff,
        decide_eq_false_iff_not] at lacks
      refine ⟨Nat.le_refl _, by dsimp only; omega, ?_⟩
      rw [ZRange.run_overlaps_run]
      dsimp only
      omega
    next claiming side =>
      obtain rfl := Option.some.inj hn
      have lacks := waits claiming
      have room : r.k + c.w + 1 < c.z := relocateRange_up_isSome.1 (side ▸ range)
      have top : r.k + c.w + 1 ≤ c.z - 1 := by omega
      simp only [relocFits, relocateRange, side, if_pos top, ZRange.inside, Bool.and_eq_false_iff,
        decide_eq_false_iff_not] at lacks
      refine ⟨Nat.le_refl _, room, ?_⟩
      rw [ZRange.run_overlaps_run]
      dsimp only
      omega

section
variable {s t : State}

/-- A relocate in CLAIMING lacks a zone of its relocate range: it steps as soon as it holds them all (R138). -/
def State.RelocLacks (s : State) : Prop :=
  ∀ r, s.motion.state = .relocating → s.motion.reloc = some r → r.phase = .claiming →
    relocFits s.port.cfg r s.resv.held = false

theorem State.RelocLacks.of_not_relocating (h : s.motion.state ≠ .relocating) : s.RelocLacks :=
  fun _ relocating => absurd relocating h

theorem State.computeNeed_ok (member : MemberLaw s) (drive : DriveLaw s) (lacks : s.RelocLacks) :
    NeedOk s.port.cfg.z s.resv.held s.computeNeed := by
  unfold State.computeNeed
  split
  · simp [NeedOk]
  split
  · split
    · exact moveNeed_ok member.config member.heldOk _ _ _
    · simp [NeedOk]
  · split
    · exact moveNeed_ok member.config member.heldOk _ _ _
    · simp [NeedOk]
  next relocating =>
    obtain ⟨r, record, rail, range, stands, -⟩ := drive.containment.relocating relocating
    rw [record]
    exact relocNeed_ok member.config range rail stands (lacks r relocating record)
  all_goals simp [NeedOk]

/-- A station that is not JOINED holds no zones and needs none (R73, R98). -/
theorem State.computeNeed_of_not_joined (member : MemberLaw s) (other : s.memb.state ≠ .joined) :
    s.computeNeed = none := if_pos (member.heldOnlyJoined other)

/-- At rest the engine needs no zones (R119). -/
theorem State.computeNeed_of_halted (h : s.motion.state = .halted) : s.computeNeed = none := by
  simp [State.computeNeed, h]

/-- A need that is gone forms no claim (R73, R74, R128). -/
theorem State.setNeed_none (s : State) : s.setNeed none = s.setMotion { s.motion with need := none } := by
  have still : (s.setMotion { s.motion with need := none }).formClaim = s.setMotion { s.motion with need := none } :=
    if_neg (by simp [State.mayFormClaim])
  have sides : needSideChanged s.motion.lastNeedSide none = false := by cases s.motion.lastNeedSide <;> rfl
  unfold State.setNeed
  simp only [sides, Bool.false_and, Bool.false_eq_true, if_false, still, ite_self]

/-! ### The laws through a fresh need -/

theorem sameDrive_setNeed (new : Option Need) : SameDrive s (s.setNeed new) := by simp [SameDrive]

theorem NeedLaw.setNeed {new : Option Need} (asks : NeedOk s.port.cfg.z s.resv.held new)
    (dormant : s.memb.state = .dormant → new = none) : NeedLaw (s.setNeed new) :=
  ⟨by simpa using asks, by simpa using dormant⟩

theorem UnitsLaw.updateNeed (records : RecordsLaw s) (drive : DriveLaw s) (lacks : s.RelocLacks) :
    UnitsLaw s.updateNeed where
  records := records.updateNeed
  drive := drive.congr (sameDrive_setNeed _)
  need := NeedLaw.setNeed (s.computeNeed_ok records.member drive lacks)
    fun dormant => s.computeNeed_of_not_joined records.member (by simp [dormant])

/-! ### The laws where the engine is told of a change of H (R88, R130, R138) -/

/-- The part of the report of a change of H that comes before the fresh need. -/
def State.resumeSteps (s : State) : State :=
  match s.motion.state with
  | .stalled =>
    if s.stepFits then
      s.setMotion { s.motion with state := .moving, stallTimer := Timer.stopped, stepTimer := Timer.start }
    else s
  | .relocating =>
    match s.motion.reloc with
    | some r =>
      if r.phase = .claiming ∧ relocFits s.port.cfg r s.resv.held = true then
        s.setMotion { s.motion with reloc := some { r with phase := .stepping }, stepTimer := Timer.start }
      else s
    | none => s
  | .unplaced | .idle | .moving | .halted => s

theorem State.onHeldChange_eq (s : State) : s.onHeldChange = s.resumeSteps.updateNeed := rfl

/-- A stalled move goes on (R130). -/
theorem DriveLaw.resumeMove (h : DriveLaw s) (stalled : s.motion.state = .stalled) (st : Timer) (sl : Timer) :
    DriveLaw (s.setMotion { s.motion with state := .moving, stallTimer := sl, stepTimer := st }) where
  activeOnlyJoined _ := h.activeOnlyJoined (by rw [stalled]; rfl)
  haltedIffFault := by simpa [stalled] using h.haltedIffFault
  faultOnlyMember := h.faultOnlyMember
  evictedCause := h.evictedCause
  pulseOnlyDriven := h.pulseOnlyDriven
  setupOnlyStepping _ := .inl rfl
  heldJoined := h.heldJoined
  containment :=
    { knownState := by simp
      placed := fun _ => h.containment.placed (.inr (.inr stalled))
      legal := h.containment.legal
      inside := h.containment.inside
      relocating := by simp }
  setUpFits setup _ := absurd (h.setupOnlyStepping setup) (by simp [stalled])
  setUpSteps := by simp

/-- A waiting relocate begins to step (R138). -/
theorem DriveLaw.resumeRelocate (h : DriveLaw s) {r : RelocRecord} (relocating : s.motion.state = .relocating)
    (record : s.motion.reloc = some r) (fits : relocFits s.port.cfg r s.resv.held = true) (st : Timer) :
    DriveLaw (s.setMotion { s.motion with reloc := some { r with phase := .stepping }, stepTimer := st }) where
  activeOnlyJoined := h.activeOnlyJoined
  haltedIffFault := h.haltedIffFault
  faultOnlyMember := h.faultOnlyMember
  evictedCause := h.evictedCause
  pulseOnlyDriven := h.pulseOnlyDriven
  setupOnlyStepping := h.setupOnlyStepping
  heldJoined := h.heldJoined
  containment :=
    { knownState := h.containment.knownState
      placed := h.containment.placed
      legal := h.containment.legal
      inside := h.containment.inside
      relocating := fun _ => by
        obtain ⟨r', record', rail, range, stands, -⟩ := h.containment.relocating relocating
        obtain rfl := Option.some.inj (record.symm.trans record')
        exact ⟨_, rfl, rail, range, stands, fun _ => fits⟩ }
  setUpFits setup moving := h.setUpFits setup moving
  setUpSteps _ _ := ⟨_, rfl, rfl⟩

theorem State.resumeSteps_spec (h : DriveLaw s) : DriveLaw s.resumeSteps ∧ s.resumeSteps.RelocLacks := by
  unfold State.resumeSteps
  split
  next stalled =>
    split
    · exact ⟨h.resumeMove stalled _ _, .of_not_relocating (by simp)⟩
    · exact ⟨h, .of_not_relocating (by simp [stalled])⟩
  next relocating =>
    split
    next r record =>
      split
      next fits =>
        refine ⟨h.resumeRelocate relocating record fits.2 _, fun _ _ => ?_⟩
        rintro ⟨⟩
        simp
      next lacks =>
        refine ⟨h, fun r' _ record' claiming => ?_⟩
        obtain rfl := Option.some.inj (record.symm.trans record')
        simpa [claiming] using lacks
    next none => exact ⟨h, fun r _ record => by simp [none] at record⟩
  all_goals exact ⟨h, .of_not_relocating (by simp_all)⟩

theorem RecordsLaw.resumeSteps (h : RecordsLaw s) : RecordsLaw s.resumeSteps := by
  unfold State.resumeSteps
  split
  · split
    · exact h.setMotion _
    · exact h
  · split
    · split
      · exact h.setMotion _
      · exact h
    · exact h
  all_goals exact h

theorem UnitsLaw.onHeldChange (records : RecordsLaw s) (drive : DriveLaw s) : UnitsLaw s.onHeldChange :=
  have ⟨resumed, lacks⟩ := s.resumeSteps_spec drive
  .updateNeed records.resumeSteps resumed lacks

/-! ### H grows (R83, R88) -/

theorem relocFits_mono {c : Config} {r : RelocRecord} {h q : ZRange} (within : h.inside q = true)
    (fits : relocFits c r h = true) : relocFits c r q = true := by
  unfold relocFits at *
  split
  next ho => simp only [ho] at fits; exact ZRange.inside_trans fits within
  next ho => simp [ho] at fits

theorem fitsIn_mono {c : Config} {p : Option Nat} {h q : ZRange} (within : h.inside q = true)
    (fits : fitsIn c p h = true) : fitsIn c p q = true := by
  obtain ⟨p, o, cand, occ, inside⟩ := fitsIn_iff.1 fits
  exact fitsIn_iff.2 ⟨p, o, cand, occ, ZRange.inside_trans inside within⟩

theorem DriveLaw.grow (h : DriveLaw s) {q : ZRange} (within : s.resv.held.inside q = true) (nonempty : q ≠ .empty) :
    DriveLaw (s.setResv { s.resv with held := q }) where
  activeOnlyJoined := h.activeOnlyJoined
  haltedIffFault := h.haltedIffFault
  faultOnlyMember := h.faultOnlyMember
  evictedCause := h.evictedCause
  pulseOnlyDriven := h.pulseOnlyDriven
  setupOnlyStepping := h.setupOnlyStepping
  heldJoined _ := nonempty
  containment :=
    { knownState := h.containment.knownState
      placed := h.containment.placed
      legal := h.containment.legal
      inside := fun known => ZRange.inside_trans (h.containment.inside known) within
      relocating := fun relocating =>
        have ⟨r, record, rail, range, stands, fits⟩ := h.containment.relocating relocating
        ⟨r, record, rail, range, ZRange.inside_trans stands within, fun step => relocFits_mono within (fits step)⟩ }
  setUpFits setup moving := fitsIn_mono within (h.setUpFits setup moving)
  setUpSteps := h.setUpSteps

theorem UnitsLaw.setHeld_grow (h : UnitsLaw s) {q : ZRange} (within : s.resv.held.inside q = true) (nonempty : q ≠ .empty)
    (records : RecordsLaw (s.setResv { s.resv with held := q })) : UnitsLaw (s.setHeld q) := by
  unfold State.setHeld
  dsimp only
  split
  next same => exact ⟨records, h.drive.grow within nonempty, h.need.congr (by simp [SameNeed, same])⟩
  · exact .onHeldChange records (h.drive.grow within nonempty)

/-! ### H shrinks (R71, R72) -/

/-- A release of zones that H does not hold leaves H, and so the engine, as they were (R71, R84). -/
theorem UnitsLaw.release_apart (h : UnitsLaw s) {r : ZRange} (apart : s.resv.held.overlaps r = false) (side : Side) :
    UnitsLaw (s.release r side) where
  records := h.records.release r side
  drive := h.drive.congr (by
    unfold State.release
    rw [ZRange.remove_of_disjoint apart]
    split <;> simp [SameDrive])
  need := h.need.congr (by
    unfold State.release
    rw [ZRange.remove_of_disjoint apart]
    split <;> simp [SameNeed])

/-- The engine has nothing that a change of H could set going: it neither stalls nor relocates, and no DIR set-up runs. -/
structure State.Steady (s : State) : Prop where
  stall : s.motion.state ≠ .stalled
  relocate : s.motion.state ≠ .relocating
  setup : s.motion.setupTimer.running = false

theorem State.Steady.onHeldChange (h : s.Steady) : s.onHeldChange = s.updateNeed := by
  have ⟨stall, relocate, _⟩ := h
  rw [State.onHeldChange_eq]
  unfold State.resumeSteps
  split
  · simp_all
  · simp_all
  all_goals rfl

/-- A release leaves a steady engine as it was, but for the need (R71, R128). -/
theorem State.Steady.release (h : s.Steady) (r : ZRange) (side : Side) :
    (s.release r side).motion.state = s.motion.state ∧ (s.release r side).motion.reloc = s.motion.reloc ∧
      (s.release r side).resv.held = s.resv.held.remove r := by
  unfold State.release
  split
  next none =>
    subst none
    refine ⟨rfl, rfl, ?_⟩
    cases s.resv.held <;> rfl
  dsimp only
  split
  next same => simp
  next =>
    have steady : ((s.setResv { s.resv with held := s.resv.held.remove r }).offer (releaseEntry r side)).Steady :=
      ⟨by simpa using h.stall, by simpa using h.relocate, by simpa using h.setup⟩
    rw [steady.onHeldChange]
    simp

theorem State.Steady.afterRelease (h : s.Steady) (r : ZRange) (side : Side) : (s.release r side).Steady :=
  have ⟨state, _, _⟩ := h.release r side
  ⟨by rw [state]; exact h.stall, by rw [state]; exact h.relocate, by simpa using h.setup⟩

/-- A steady engine keeps its laws where H gives up zones in which the carriage does not stand (R71, R120). -/
theorem DriveLaw.release (h : DriveLaw s) (steady : s.Steady) {r : ZRange} {side : Side}
    (stands : s.occupied.inside (s.resv.held.remove r) = true) (nonempty : s.occupied ≠ .empty) :
    DriveLaw (s.release r side) := by
  have ⟨state, reloc, held⟩ := steady.release r side
  have less : s.resv.held.remove r ≠ .empty := fun none => by
    rw [none] at stands
    cases ho : s.occupied with
    | empty => exact nonempty ho
    | run lo hi => simp [ho, ZRange.inside] at stands
  have occupied : (s.release r side).occupied = s.occupied := by simp [State.occupied]
  exact
    { activeOnlyJoined := by simpa [state] using h.activeOnlyJoined
      haltedIffFault := by simpa [state] using h.haltedIffFault
      faultOnlyMember := by simpa using h.faultOnlyMember
      evictedCause := by simpa using h.evictedCause
      pulseOnlyDriven := by simpa using h.pulseOnlyDriven
      setupOnlyStepping := by simp [steady.setup]
      heldJoined := fun _ => by rwa [held]
      containment :=
        { knownState := by simpa [state] using h.containment.knownState
          placed := by simpa [state] using h.containment.placed
          legal := by simpa using h.containment.legal
          inside := fun _ => by rwa [occupied, held]
          relocating := fun relocating => absurd (state.symm.trans relocating) steady.relocate }
      setUpFits := by simp [steady.setup]
      setUpSteps := by simp [steady.setup] }

/-- The carriage of a placed engine stands on zones of H (R5, R120). -/
theorem DriveLaw.stands (h : DriveLaw s) (member : MemberLaw s) (known : s.motion.known = true) :
    ∃ lo hi hlo hhi, s.occupied = .run lo hi ∧ s.resv.held = .run hlo hhi ∧ hlo ≤ lo ∧ lo ≤ hi ∧ hi ≤ hhi ∧
      hhi < s.port.cfg.z := by
  have legal := h.containment.legal known
  have ⟨order, _⟩ := occupiedAt_legal member.config legal
  have inside := h.containment.inside known
  have ok := member.heldOk
  rw [s.occupied_of_known known legal] at *
  cases held : s.resv.held with
  | empty => simp [held, ZRange.inside] at inside
  | run hlo hhi =>
    rw [held, ZRange.run_inside_run] at inside
    rw [held, ZRange.run_ok] at ok
    exact ⟨_, _, hlo, hhi, rfl, rfl, inside.1, order, inside.2, ok.2⟩

theorem DriveLaw.releaseBelow (h : DriveLaw s) (member : MemberLaw s) (steady : s.Steady)
    (known : s.motion.known = true) {lo hi : Nat} (occ : s.occupied = .run lo hi) : DriveLaw (s.releaseBelow lo) := by
  obtain ⟨lo', hi', hlo, hhi, occ', held, low, order, high, -⟩ := h.stands member known
  obtain ⟨rfl, rfl⟩ : lo = lo' ∧ hi = hi' := by simpa using occ.symm.trans occ'
  refine h.release steady ?_ (by simp [occ])
  rw [held, ZRange.remove_below low (by omega), occ, ZRange.run_inside_run]
  omega

theorem DriveLaw.releaseAbove (h : DriveLaw s) (member : MemberLaw s) (steady : s.Steady)
    (known : s.motion.known = true) {lo hi : Nat} (occ : s.occupied = .run lo hi) : DriveLaw (s.releaseAbove hi) := by
  obtain ⟨lo', hi', hlo, hhi, occ', held, low, order, high, rail⟩ := h.stands member known
  obtain ⟨rfl, rfl⟩ : lo = lo' ∧ hi = hi' := by simpa using occ.symm.trans occ'
  refine h.release steady ?_ (by simp [occ])
  rw [held, ZRange.remove_above (by omega) high rail, occ, ZRange.run_inside_run]
  omega

theorem State.Steady.trim (h : s.Steady) : s.trim.Steady ∧ s.trim.motion.state = s.motion.state := by
  unfold State.trim
  split
  · exact ⟨h, rfl⟩
  next lo hi _ =>
    have below := h.afterRelease (if lo = 0 then .empty else s.resv.held.inter (.run 0 (lo - 1))) .down
    have ⟨state, _, _⟩ := h.release (if lo = 0 then .empty else s.resv.held.inter (.run 0 (lo - 1))) .down
    have ⟨state', _, _⟩ := below.release ((s.releaseBelow lo).resv.held.inter
      (.run (hi + 1) ((s.releaseBelow lo).port.cfg.z - 1))) .up
    exact ⟨below.afterRelease _ .up, state'.trans state⟩

theorem DriveLaw.trim (h : DriveLaw s) (records : RecordsLaw s) (steady : s.Steady) (known : s.motion.known = true) :
    DriveLaw s.trim := by
  unfold State.trim
  split
  · exact h
  next lo hi occ =>
    have below := h.releaseBelow records.member steady known occ
    refine below.releaseAbove (records.release _ .down).member (steady.afterRelease _ .down) (by simpa using known)
      (lo := lo) ?_
    simpa [State.occupied] using occ

/-! ### The end of a move (R134) -/

/-- The engine without a step, a DIR set-up or a stall under way (R122, R134). -/
def State.stopMove (s : State) : State := s.setMotion { s.motion.stopStepping with stallTimer := Timer.stopped }

/-- A move ends in IDLE or HALTED; the laws need hold only once its set-up is given up (R134, log 20). -/
theorem UnitsLaw.endMove (records : RecordsLaw s) (drive : DriveLaw s.stopMove)
    (rest : s.motion.state = .idle ∨ s.motion.state = .halted) (reason : EndReason) : UnitsLaw (s.endMove reason) := by
  have stopped : RecordsLaw s.stopMove := records.setMotion _
  have steady : s.stopMove.Steady :=
    ⟨by rcases rest with h | h <;> simp [State.stopMove, h], by rcases rest with h | h <;> simp [State.stopMove, h],
      by simp [State.stopMove, Timer.stopped]⟩
  have ⟨trimmed, drive', steady'⟩ :
      let u := if s.stopMove.motion.state = .idle then s.stopMove.trim else s.stopMove
      RecordsLaw u ∧ DriveLaw u ∧ u.Steady := by
    dsimp only
    split
    next idle =>
      exact ⟨stopped.trim, drive.trim stopped steady (drive.containment.placed (.inl idle)), steady.trim.1⟩
    next => exact ⟨stopped, drive, steady⟩
  have ended := UnitsLaw.updateNeed (trimmed.setMotion
    { (if s.stopMove.motion.state = .idle then s.stopMove.trim else s.stopMove).motion with
      target := none, direction := none })
    { activeOnlyJoined := drive'.activeOnlyJoined
      haltedIffFault := drive'.haltedIffFault
      faultOnlyMember := drive'.faultOnlyMember
      evictedCause := drive'.evictedCause
      pulseOnlyDriven := drive'.pulseOnlyDriven
      setupOnlyStepping := drive'.setupOnlyStepping
      heldJoined := drive'.heldJoined
      containment := drive'.containment.congr rfl rfl rfl rfl rfl rfl
      setUpFits := fun setup => by simp [steady'.setup] at setup
      setUpSteps := drive'.setUpSteps } (.of_not_relocating steady'.relocate)
  exact
    { records := (ended.records.orphanClaim).queueEvent _
      drive := ended.drive.congr (by simp [SameDrive, State.endMove, State.stopMove])
      need := ended.need.congr (by simp [SameNeed, State.endMove, State.stopMove]) }

/-- A move or a station at rest comes to IDLE (R126, R130, R132, R133). -/
theorem DriveLaw.idle (h : DriveLaw s) (known : s.motion.known = true) (joined : s.memb.state = .joined)
    (clear : s.fault.cause = none) : DriveLaw (s.setMotion { s.motion with state := .idle }).stopMove where
  activeOnlyJoined _ := joined
  haltedIffFault := by simp [State.stopMove, clear]
  faultOnlyMember := h.faultOnlyMember
  evictedCause := h.evictedCause
  pulseOnlyDriven := h.pulseOnlyDriven
  setupOnlyStepping := by simp [State.stopMove, Timer.stopped]
  heldJoined := h.heldJoined
  containment :=
    { knownState := by simp [State.stopMove]
      placed := fun _ => known
      legal := h.containment.legal
      inside := h.containment.inside
      relocating := by simp [State.stopMove] }
  setUpFits := by simp [State.stopMove, Timer.stopped]
  setUpSteps := by simp [State.stopMove, Timer.stopped]

/-- An engine in a state of a move knows its place in a JOINED station without a fault (R97, R119, R142). -/
theorem DriveLaw.of_placed (h : DriveLaw s)
    (placed : s.motion.state = .idle ∨ s.motion.state = .moving ∨ s.motion.state = .stalled) :
    s.motion.known = true ∧ s.memb.state = .joined ∧ s.fault.cause = none := by
  have live : s.motion.state ≠ .halted := by rcases placed with h | h | h <;> simp [h]
  refine ⟨h.containment.placed placed, h.activeOnlyJoined ?_, ?_⟩
  · rcases placed with h | h | h <;> simp [h, engineActive]
  · simpa using mt h.haltedIffFault.2 live

theorem UnitsLaw.endMove_idle (h : UnitsLaw s)
    (placed : s.motion.state = .idle ∨ s.motion.state = .moving ∨ s.motion.state = .stalled) (reason : EndReason) :
    UnitsLaw ((s.setMotion { s.motion with state := .idle }).endMove reason) :=
  have ⟨known, joined, clear⟩ := h.drive.of_placed placed
  .endMove (h.records.setMotion _) (h.drive.idle known joined clear) (.inl rfl) reason

/-! ### The relocate (R136 to R138, R141) -/

/-- The engine of a JOINED station without a fault relocates, its place not known and no set-up running. -/
structure State.Relocates (s : State) : Prop where
  state : s.motion.state = .relocating
  joined : s.memb.state = .joined
  clear : s.fault.cause = none
  unknown : s.motion.known = false
  setup : s.motion.setupTimer.running = false

theorem DriveLaw.of_relocating (h : DriveLaw s) (state : s.motion.state = .relocating) :
    s.memb.state = .joined ∧ s.fault.cause = none ∧ s.motion.known = false := by
  refine ⟨h.activeOnlyJoined (by rw [state]; rfl), ?_, ?_⟩
  · simpa using mt h.haltedIffFault.2 (by simp [state])
  · by_contra known
    exact (h.containment.knownState (by simpa using known)).2 state

/-- A relocate from zone k in a direction can be taken up: the range of the direction exists and the carriage stands in H
(R136, R137). -/
structure RelocOpen (c : Config) (h : ZRange) (r : RelocRecord) : Prop where
  rail : r.k < c.z
  range : (relocateRange c r.k r.side).isSome = true
  stands : (conservativeRange c r.k).inside h = true

theorem State.Relocates.drive (h : s.Relocates) {r : RelocRecord} (record : s.motion.reloc = some r)
    (possible : RelocOpen s.port.cfg s.resv.held r)
    (fits : r.phase = .stepping → relocFits s.port.cfg r s.resv.held = true) : DriveLaw s where
  activeOnlyJoined _ := h.joined
  haltedIffFault := by simp [h.state, h.clear]
  faultOnlyMember := by simp [h.clear]
  evictedCause := by simp [h.joined]
  pulseOnlyDriven _ := ⟨h.joined, h.clear⟩
  setupOnlyStepping := by simp [h.setup]
  heldJoined _ none := by
    have stands := possible.stands
    rw [none] at stands
    simp [conservativeRange, ZRange.inside] at stands
  containment :=
    { knownState := by simp [h.unknown]
      placed := by simp [h.state]
      legal := by simp [h.unknown]
      inside := by simp [h.unknown]
      relocating := fun _ => ⟨r, record, possible.rail, possible.range, possible.stands, fits⟩ }
  setUpFits := by simp [h.setup]
  setUpSteps := by simp [h.setup]

theorem UnitsLaw.enterDirection (records : RecordsLaw s) (h : s.Relocates) {r : RelocRecord}
    (possible : RelocOpen s.port.cfg s.resv.held r) : UnitsLaw (s.enterDirection r) := by
  unfold State.enterDirection
  split
  next fits =>
    have steps : State.Relocates (s.setMotion
        { s.motion with reloc := some { r with phase := .stepping }, stepTimer := Timer.start }) :=
      ⟨h.state, h.joined, h.clear, h.unknown, h.setup⟩
    refine .updateNeed (records.setMotion _)
      (steps.drive rfl ⟨possible.rail, possible.range, possible.stands⟩ fun _ => fits) fun _ _ => ?_
    rintro ⟨⟩
    simp
  next lacks =>
    have waits : State.Relocates (s.setMotion
        { s.motion with reloc := some { r with phase := .claiming }, stepTimer := Timer.stopped }) :=
      ⟨h.state, h.joined, h.clear, h.unknown, h.setup⟩
    refine .updateNeed (records.setMotion _)
      (waits.drive rfl ⟨possible.rail, possible.range, possible.stands⟩ (by simp)) fun _ _ => ?_
    rintro ⟨⟩ _
    exact Bool.eq_false_iff.2 lacks

/-- The state that the end of a relocate leaves, before the claim is orphaned and the end is reported (R141). -/
def State.leaveRelocate (s : State) (after : MotionState) : State :=
  s.setMotion { s.motion.stopStepping with need := none, reloc := none, state := after }

theorem UnitsLaw.endRelocate (records : RecordsLaw s) (need : NeedLaw s) {after : MotionState}
    (drive : DriveLaw (s.leaveRelocate after)) (reason : EndReason) : UnitsLaw (s.endRelocate reason after) where
  records := records.endRelocate reason after
  drive := drive.congr (by
    unfold State.endRelocate
    split
    next none => simp [SameDrive, State.leaveRelocate, none]
    next => simp [SameDrive, State.leaveRelocate])
  need := by
    unfold State.endRelocate
    split
    · exact need.congr (by simp [SameNeed])
    next =>
      refine ⟨?_, ?_⟩
      · simp [NeedOk]
      · simp

/-- The end of a relocate without a place leaves the engine UNPLACED, its set-up given up (R141). -/
theorem DriveLaw.of_leaveRelocate (joined : s.memb.state = .joined) (clear : s.fault.cause = none)
    (unknown : s.motion.known = false) (held : s.resv.held ≠ .empty) : DriveLaw (s.leaveRelocate .unplaced) where
  activeOnlyJoined := by simp [State.leaveRelocate, engineActive]
  haltedIffFault := by simp [State.leaveRelocate, clear]
  faultOnlyMember := by simp [State.leaveRelocate, clear]
  evictedCause := by simp [State.leaveRelocate, joined]
  pulseOnlyDriven _ := ⟨joined, clear⟩
  setupOnlyStepping := by simp [State.leaveRelocate, Timer.stopped]
  heldJoined _ := held
  containment :=
    { knownState := by simp [State.leaveRelocate, unknown]
      placed := by simp [State.leaveRelocate]
      legal := by simp [State.leaveRelocate, unknown]
      inside := by simp [State.leaveRelocate, unknown]
      relocating := by simp [State.leaveRelocate] }
  setUpFits := by simp [State.leaveRelocate, Timer.stopped]
  setUpSteps := by simp [State.leaveRelocate, Timer.stopped]

theorem State.Relocates.unplaced (h : s.Relocates) (held : s.resv.held ≠ .empty) : DriveLaw (s.leaveRelocate .unplaced) :=
  .of_leaveRelocate h.joined h.clear h.unknown held

theorem UnitsLaw.relocateUp (records : RecordsLaw s) (need : NeedLaw s) (h : s.Relocates) (held : s.resv.held ≠ .empty)
    {r : RelocRecord} (rail : r.k < s.port.cfg.z)
    (stands : (conservativeRange s.port.cfg r.k).inside s.resv.held = true) : UnitsLaw (s.relocateUp r) := by
  unfold State.relocateUp
  split
  next range => exact .enterDirection records h ⟨rail, range, stands⟩
  next => exact .endRelocate records need (h.unplaced held) _

theorem UnitsLaw.chooseDirection (records : RecordsLaw s) (need : NeedLaw s) (h : s.Relocates)
    (held : s.resv.held ≠ .empty) {r : RelocRecord} (rail : r.k < s.port.cfg.z) : UnitsLaw (s.chooseDirection r) := by
  unfold State.chooseDirection
  split
  next stands =>
    split
    next one => exact .enterDirection records h ⟨rail, by simp [relocateRange, one], stands⟩
    next => exact .relocateUp records need h held rail stands
  next => exact .endRelocate records need (h.unplaced held) _

theorem UnitsLaw.onClaimFailed (h : UnitsLaw s) (side : Side) : UnitsLaw (s.onClaimFailed side) := by
  unfold State.onClaimFailed
  split
  next r state record =>
    split
    next waits =>
      obtain ⟨joined, clear, unknown⟩ := h.drive.of_relocating state
      have setup : s.motion.setupTimer.running = false := by
        by_contra running
        obtain ⟨r', record', steps⟩ := h.drive.setUpSteps (by simpa using running) state
        obtain rfl := Option.some.inj (record.symm.trans record')
        simp [waits.1] at steps
      have relocates : s.Relocates := ⟨state, joined, clear, unknown, setup⟩
      have held := h.drive.heldJoined joined
      obtain ⟨r', record', rail, -, stands, -⟩ := h.drive.containment.relocating state
      obtain rfl := Option.some.inj (record.symm.trans record')
      cases side with
      | down => exact .relocateUp h.records h.need relocates held rail stands
      | up => exact .endRelocate h.records h.need (relocates.unplaced held) _
    next => exact h
  next => exact h

/-! ### Faults (R142, R165 to R168) -/

theorem FaultUnit.take_cause {f g : FaultUnit} {r : FaultReport} (h : f.take r = some g) :
    g.cause.isSome = true ∧ (r = .evicted → g.cause = some .evicted) := by
  unfold FaultUnit.take at h
  split at h
  case h_2 =>
    split at h
    · simp at h
    · obtain rfl := Option.some.inj h
      simp_all
  all_goals
    obtain rfl := Option.some.inj h
    simp_all

/-- Whatever the engine was doing, it ends in HALTED, with no pulse and no set-up, and with its need gone or as it was
(R121, R142). -/
theorem State.forceHalt_halts (s : State) (cause : FaultCause) :
    (s.forceHalt cause).motion.state = .halted ∧ (s.forceHalt cause).motion.stepHigh = false ∧
    (s.forceHalt cause).motion.setupTimer.running = false ∧
    (s.forceHalt cause).motion.known = (s.motion.known && !cause.losesPosition) ∧
    ((s.forceHalt cause).motion.need = none ∨ (s.forceHalt cause).motion.need = s.motion.need) := by
  unfold State.forceHalt
  dsimp only
  split
  · simp [State.endMove, State.computeNeed, Timer.stopped]
  · simp [State.endMove, State.computeNeed, Timer.stopped]
  · unfold State.endRelocate
    split <;> simp [Timer.stopped]
  · simp [State.computeNeed, Timer.stopped]
  · simp [State.computeNeed, Timer.stopped]
  next halted => simpa [Timer.stopped] using halted

/-- A halted engine keeps its laws where the carriage, if its place is known, stands inside H (R120, R142). -/
theorem DriveLaw.of_halted (halted : s.motion.state = .halted) (low : s.motion.stepHigh = false)
    (setup : s.motion.setupTimer.running = false) (cause : s.fault.cause.isSome = true)
    (member : s.memb.state = .joined ∨ s.memb.state = .evicted)
    (evicted : s.memb.state = .evicted → s.fault.cause = some .evicted)
    (held : s.memb.state = .joined → s.resv.held ≠ .empty)
    (stands : s.motion.known = true → s.motion.p ≤ maxPosition s.port.cfg ∧ s.occupied.inside s.resv.held = true) :
    DriveLaw s where
  activeOnlyJoined := by simp [halted, engineActive]
  haltedIffFault := by simp [halted, cause]
  faultOnlyMember _ := member
  evictedCause := evicted
  pulseOnlyDriven := by simp [low]
  setupOnlyStepping := by simp [setup]
  heldJoined := held
  containment :=
    { knownState := by simp [halted]
      placed := by simp [halted]
      legal := fun known => (stands known).1
      inside := fun known => (stands known).2
      relocating := by simp [halted] }
  setUpFits := by simp [setup]
  setUpSteps := by simp [setup]

theorem NeedLaw.forceHalt (h : NeedLaw s) (cause : FaultCause) : NeedLaw (s.forceHalt cause) := by
  obtain ⟨-, -, -, -, none | same⟩ := s.forceHalt_halts cause
  · exact ⟨by simp [none, NeedOk], by simp [none]⟩
  · exact h.congr (by simp [SameNeed, same])

/-- A fault report to a JOINED station (R142, R166 to R168). -/
theorem UnitsLaw.reportFault (h : UnitsLaw s) (joined : s.memb.state = .joined) (r : FaultReport) :
    UnitsLaw (s.reportFault r) := by
  have records := h.records.reportFault r
  unfold State.reportFault at *
  split
  · exact h
  next f taken =>
    let u := (s.setFault f).queueEvent (.fault r.cause)
    obtain ⟨halted, low, setup, known, -⟩ := u.forceHalt_halts r.cause
    refine ⟨by simpa [taken] using records, ?_, NeedLaw.forceHalt (h.need.congr (by simp [SameNeed])) _⟩
    refine .of_halted halted low setup (by simpa using (FaultUnit.take_cause taken).1) (.inl (by simpa using joined))
      (by simp [joined]) (by simpa using h.drive.heldJoined) fun still => ?_
    have known' : s.motion.known = true := by
      rw [known] at still
      simpa [u] using (Bool.and_eq_true_iff.1 still).1
    refine ⟨by simpa using h.drive.containment.legal known', ?_⟩
    have inside := h.drive.containment.inside known'
    simpa [State.occupied, still, known', u] using inside

end

end Sys2Proof.Machine

/-! PROOFS. The operations of the outgoing queue, of the claim and of the directory keep the laws of all units
(R35 to R38, R50 to R66, R74, R75). -/

namespace Sys2Proof.Machine

section
variable {s t : State}

/-! ### The queue, the events and the claim -/

theorem UnitsLaw.queueEvent (h : UnitsLaw s) (e : Event) : UnitsLaw (s.queueEvent e) :=
  h.congr (by simp [SameRecords]) (by simp [SameDrive]) (by simp [SameNeed])

theorem UnitsLaw.withZone (h : UnitsLaw s) (zone : Byte) : UnitsLaw (s.withZone zone) :=
  h.congr (by simp [SameRecords]) (by simp [SameDrive]) (by simp [SameNeed])

/-- The records change, but not H, the membership state, the latch, the configuration and the engine. -/
theorem UnitsLaw.ofRecords (h : UnitsLaw s) (records : RecordsLaw t) (motion : t.motion = s.motion)
    (held : t.resv.held = s.resv.held) (memb : t.memb.state = s.memb.state) (fault : t.fault.cause = s.fault.cause)
    (cfg : t.port.cfg = s.port.cfg) : UnitsLaw t :=
  ⟨records, h.drive.congr (by simp [SameDrive, motion, held, memb, fault, cfg]),
    h.need.congr (by simp [SameNeed, motion, held, memb, cfg])⟩

theorem UnitsLaw.offer (h : UnitsLaw s) {e : QEntry} (claim : e.isClaim = false) (join : e.isJoin = false) :
    UnitsLaw (s.offer e) :=
  h.ofRecords (h.records.offer claim join) (by simp) (by simp) (by simp) (by simp) (by simp)

theorem UnitsLaw.setResv (h : UnitsLaw s) {x : Reservation} (held : x.held = s.resv.held)
    (claim : x.claim = s.resv.claim) : UnitsLaw (s.setResv x) :=
  h.ofRecords (h.records.setResv held claim) rfl held rfl rfl rfl

theorem UnitsLaw.formClaim (h : UnitsLaw s) : UnitsLaw s.formClaim :=
  h.ofRecords h.records.formClaim (by simp) (by simp) (by simp) (by simp) (by simp)

theorem UnitsLaw.arm (h : UnitsLaw s) : UnitsLaw s.arm :=
  h.ofRecords h.records.arm (by simp) (by simp) (by simp) (by simp) (by simp)

theorem UnitsLaw.waitRearm (h : UnitsLaw s) (watched : List Addr) : UnitsLaw (s.waitRearm watched) :=
  h.setResv rfl rfl

theorem UnitsLaw.notice (h : UnitsLaw s) (a : Addr) : UnitsLaw (s.notice a) :=
  h.ofRecords (h.records.notice a) (by simp) (by simp) (by simp) (by simp) (by simp)

theorem UnitsLaw.noticeChange (h : UnitsLaw t) (a : Addr) : UnitsLaw (t.noticeChange s a) := by
  unfold State.noticeChange
  split
  · exact h.notice a
  · exact h

/-! ### One entry of the directory is written (R47, R50) -/

/-- The entry at an address after one was written at another or the same. -/
theorem getElem_set_addr (v : Vector PeerEntry 16) (x a : Addr) (e : PeerEntry) :
    (v.set x e)[a.val] = if a = x then e else v[a.val] := by
  rw [Vector.getElem_set]
  simp [Fin.ext_iff, eq_comm]

theorem State.entry_of_set {x : Addr} {e : PeerEntry} (entries : t.dir.entries = s.dir.entries.set x e) (a : Addr) :
    t.entry a = if a = x then e else s.entry a := by
  simp [State.entry, entries, getElem_set_addr]

/-- The eviction that pends on an entry: its record where the entry is the EVICTING target (R47, R50). -/
def State.evictionOf (s : State) (x : Addr) : Option EvictionPending :=
  s.dir.eviction.filter fun r => r.target == x && (s.entry x).state == .evicting

/-- An entry is written with a state, or with its return state while it is EVICTING (R50). -/
theorem State.setEntry_spec (s : State) (x : Addr) (st : PeerState) (e : PeerEntry) :
    (s.evictionOf x = none ∧ s.setEntry x st e =
      s.setDir { s.dir with entries := s.dir.entries.set x { e with state := st } }) ∨
    (∃ r, s.evictionOf x = some r ∧ s.dir.eviction = some r ∧ r.target = x ∧ (s.entry x).state = .evicting ∧
      s.setEntry x st e = s.setDir
        { entries := s.dir.entries.set x { e with state := .evicting }, eviction := some { r with returnState := st } }) := by
  unfold State.setEntry State.evictionOf
  split
  next none => exact .inl ⟨by simp [none], rfl⟩
  next r pends =>
    split
    next target => exact .inr ⟨r, by simp [pends, target], pends, target.1, target.2, rfl⟩
    next other => exact .inl ⟨by simpa [pends] using fun h => not_and.1 other h, rfl⟩

/-- The EVICTING entry is the target of the eviction that pends (R58, R62). -/
theorem PeersLaw.evicting_iff (h : PeersLaw s) (a : Addr) :
    (s.entry a).state = .evicting ↔ ∃ r, s.dir.eviction = some r ∧ r.target = a := by
  cases pends : s.dir.eviction with
  | none => simpa [pends] using h.absent pends a
  | some r => simpa [eq_comm] using h.target r pends a

/-- The extent of an entry lies outside a range where the carriage of a JOINING peer does, and the held range of another
(R48). -/
theorem PeerEntry.extent_apart {e : PeerEntry} {q : ZRange} (joins : e.state = .joining → e.occupied.overlaps q = false)
    (holds : e.state ≠ .joining → e.held.overlaps q = false) : e.extent.overlaps q = false := by
  unfold PeerEntry.extent
  split
  · simp
  next joining => exact joins joining
  next state => exact holds (by simp [state])
  next state => exact holds (by simp [state])
  next state => exact holds (by simp [state])

theorem PeerEntry.held_apart {e : PeerEntry} {q : ZRange} (apart : e.extent.overlaps q = false)
    (state : e.state = .present ∨ e.state = .silent ∨ e.state = .evicting) : e.held.overlaps q = false := by
  rcases state with state | state | state <;> simpa [PeerEntry.extent, state] using apart

/-- The directory laws where one entry is written and the pending eviction with it: the entry's ranges lie on the rail and
its extent outside H, and the eviction names the one EVICTING entry (R48, R58, R62, R65). -/
theorem PeersLaw.write (h : PeersLaw s) (awake : s.memb.state ≠ .dormant) {x : Addr} {e : PeerEntry}
    {v : Option EvictionPending} (ok : e.held.ok s.port.cfg.z = true ∧ e.occupied.ok s.port.cfg.z = true)
    (apart : e.extent.overlaps s.resv.held = false) (evicting : e.state = .evicting ↔ ∃ r, v = some r ∧ r.target = x)
    (others : ∀ a, a ≠ x → ((s.entry a).state = .evicting ↔ ∃ r, v = some r ∧ r.target = a))
    (returns : ∀ r, v = some r → r.returnState ≠ .evicting ∧ (r.returnState = .joining →
      (if r.target = x then e else s.entry r.target).occupied.overlaps s.resv.held = false)) :
    PeersLaw (s.setDir { entries := s.dir.entries.set x e, eviction := v }) := by
  have entry (a : Addr) : (s.setDir { entries := s.dir.entries.set x e, eviction := v }).entry a =
      if a = x then e else s.entry a := State.entry_of_set rfl a
  have marked (a : Addr) : ((s.setDir { entries := s.dir.entries.set x e, eviction := v }).entry a).state = .evicting ↔
      ∃ r, v = some r ∧ r.target = a := by
    rw [entry]
    split
    next same => exact same ▸ evicting
    next other => exact others a other
  exact
    { entriesOk := fun a => by
        rw [entry]
        split
        · exact ok
        · exact h.entriesOk a
      dormant := fun dormant => absurd dormant awake
      directory := fun a => by
        simp only [State.extent, entry]
        split
        · exact apart
        · exact h.directory a
      absent := fun free a evicts => by
        obtain ⟨r, pends, -⟩ := (marked a).1 evicts
        exact absurd (free.symm.trans pends) nofun
      target := fun r pends a => by
        have pends : v = some r := pends
        rw [marked]
        simp [pends, eq_comm]
      returns := fun r pends => (returns r pends).1
      joiner := fun r pends joining => by
        rw [entry]
        exact (returns r pends).2 joining }

/-- The directory laws where the entry of one address is written by the rules for frames: a state other than EVICTING, a
held range outside H unless the entry is a JOINING one, whose carriage stands outside H then (R48, R50, R65). -/
theorem PeersLaw.setEntry (h : PeersLaw s) (awake : s.memb.state ≠ .dormant) {x : Addr} {st : PeerState} {e : PeerEntry}
    (live : st ≠ .evicting) (ok : e.held.ok s.port.cfg.z = true ∧ e.occupied.ok s.port.cfg.z = true)
    (apart : st ≠ .joining ∨ (s.entry x).state = .evicting → e.held.overlaps s.resv.held = false)
    (joins : st = .joining → e.occupied.overlaps s.resv.held = false) : PeersLaw (s.setEntry x st e) := by
  obtain ⟨free, eq⟩ | ⟨r, -, pends, target, evicting, eq⟩ := s.setEntry_spec x st e
  · have other (r : EvictionPending) (pends : s.dir.eviction = some r) : r.target ≠ x := by
      rintro rfl
      simp [State.evictionOf, pends, (h.target r pends r.target).2 rfl] at free
    rw [eq]
    exact h.write awake ok (PeerEntry.extent_apart joins fun settled => apart (.inl settled))
      ⟨fun evicting => absurd evicting live, fun ⟨r, pends, target⟩ => absurd target (other r pends)⟩
      (fun a _ => h.evicting_iff a) fun r pends =>
        ⟨h.returns r pends, fun joining => by rw [if_neg (other r pends)]; exact h.joiner r pends joining⟩
  · rw [eq]
    refine h.write awake ok (PeerEntry.extent_apart nofun fun _ => apart (.inr evicting)) (by simp [target])
      (fun a _ => (h.evicting_iff a).trans (by simp [pends])) ?_
    rintro _ ⟨⟩
    exact ⟨live, fun joining => by rw [if_pos target]; exact joins joining⟩

/-- The directory changes, and keeps its laws. -/
theorem UnitsLaw.setDir (h : UnitsLaw s) {d : Directory} (peers : PeersLaw (s.setDir d)) : UnitsLaw (s.setDir d) :=
  h.ofRecords
    { ties := h.records.ties.congr rfl rfl rfl rfl rfl
      waiting := h.records.waiting
      peers := peers
      member := h.records.member.congr rfl rfl rfl rfl rfl rfl rfl } rfl rfl rfl rfl rfl

theorem UnitsLaw.setEntry (h : UnitsLaw s) (awake : s.memb.state ≠ .dormant) {x : Addr} {st : PeerState} {e : PeerEntry}
    (live : st ≠ .evicting) (ok : e.held.ok s.port.cfg.z = true ∧ e.occupied.ok s.port.cfg.z = true)
    (apart : st ≠ .joining ∨ (s.entry x).state = .evicting → e.held.overlaps s.resv.held = false)
    (joins : st = .joining → e.occupied.overlaps s.resv.held = false) : UnitsLaw (s.setEntry x st e) := by
  refine h.ofRecords
    { ties := h.records.ties.congr ?_ ?_ ?_ ?_ ?_
      waiting := by simpa [WaitingLaw] using h.records.waiting
      peers := h.records.peers.setEntry awake live ok apart joins
      member := h.records.member.congr ?_ ?_ ?_ ?_ ?_ ?_ ?_ } ?_ ?_ ?_ ?_ ?_
  all_goals simp

/-! ### What each kind of frame does to the directory (R50 to R58, R61) -/

theorem UnitsLaw.touch (h : UnitsLaw s) (a : Addr) : UnitsLaw (s.touch a) := by
  unfold State.touch
  split
  · refine h.setDir (h.records.peers.congr rfl (fun b => ?_) rfl rfl rfl)
    rw [State.entry_of_set (s := s) (x := a) (e := { s.entry a with age := 0 }) rfl]
    split
    next same => simp [same]
    · simp
  · exact h

theorem UnitsLaw.presentEvent (h : UnitsLaw s) (a : Addr) (old : PeerState) : UnitsLaw (s.presentEvent a old) := by
  unfold State.presentEvent
  split
  · exact h.queueEvent _
  · exact h.queueEvent _
  · exact h.queueEvent _
  all_goals exact h

/-- A station whose H meets a range is JOINED (R98). -/
theorem MemberLaw.joined_of_overlaps (h : MemberLaw s) {r : ZRange} (overlap : r.overlaps s.resv.held = true) :
    s.memb.state = .joined := by
  by_contra other
  simp [h.heldOnlyJoined other] at overlap

theorem UnitsLaw.dirPresence (h : UnitsLaw s) (awake : s.memb.state ≠ .dormant) (x : Addr) {held occupied : ZRange}
    (hok : held.ok s.port.cfg.z = true) (ook : occupied.ok s.port.cfg.z = true) (mode : MotionState) :
    UnitsLaw (s.dirPresence x held occupied mode) := by
  unfold State.dirPresence
  have written := h.setEntry awake (x := x) (st := .present)
    (e := { s.entry x with held := clip s.resv.held held occupied, occupied := occupied, mode := mode })
    (by simp) ⟨clip_ok hok _, ook⟩ (fun _ => clip_disjoint _ _ _) (by simp)
  have announced := written.presentEvent x (s.standing x)
  refine UnitsLaw.noticeChange ?_ _
  dsimp only
  split
  next overlap =>
    have joined := h.records.member.joined_of_overlaps overlap
    split
    · exact (announced.queueEvent _).reportFault (by simpa using joined) _
    · exact announced.reportFault (by simpa using joined) _
  next =>
    split
    · exact announced.queueEvent _
    · exact announced

theorem grantExtended_ok {z : Nat} {e : PeerEntry} {g : ZRange} (hok : e.held.ok z = true) (ook : e.occupied.ok z = true)
    (gok : g.ok z = true) : (grantExtended e g).ok z = true := by
  unfold grantExtended
  split
  · exact gok
  · exact ZRange.span_ok (ZRange.span_ok hok ook) gok
  all_goals exact ZRange.span_ok hok gok

theorem UnitsLaw.dirGrant (h : UnitsLaw s) (awake : s.memb.state ≠ .dormant) (x : Addr) {g : ZRange}
    (gok : g.ok s.port.cfg.z = true) : UnitsLaw (s.dirGrant x g) := by
  have ⟨hok, ook⟩ := h.records.peers.entriesOk x
  unfold State.dirGrant
  have written := h.setEntry awake (x := x) (st := if s.standing x = .silent then .silent else .present)
    (e := { s.entry x with held := clip s.resv.held (grantExtended (s.entry x) g) (s.entry x).occupied })
    (by split <;> simp) ⟨clip_ok (grantExtended_ok hok ook gok) _, ook⟩ (fun _ => clip_disjoint _ _ _)
    (by split <;> simp)
  refine UnitsLaw.noticeChange ?_ _
  split
  next silent => simpa [silent] using written
  next other => simpa [other] using written.presentEvent x (s.standing x)

theorem UnitsLaw.dirRelease (h : UnitsLaw s) (awake : s.memb.state ≠ .dormant) (x : Addr) (r : ZRange) :
    UnitsLaw (s.dirRelease x r) := by
  have peers := h.records.peers
  have ⟨hok, ook⟩ := peers.entriesOk x
  have before := peers.directory x
  unfold State.dirRelease
  refine UnitsLaw.noticeChange (h.setDir (peers.write awake
    (e := { s.entry x with held := (s.entry x).held.remove r }) ⟨ZRange.remove_ok hok r, ook⟩ ?_ (peers.evicting_iff x)
    (fun a _ => peers.evicting_iff a) fun v pends => ⟨peers.returns v pends, fun joining => ?_⟩)) _
  · refine ZRange.disjoint_of_inside ?_ before
    simp only [State.extent, PeerEntry.extent]
    split
    · exact ZRange.inside_refl _
    · exact ZRange.inside_refl _
    all_goals exact ZRange.remove_inside _ r
  · have joiner := peers.joiner v pends joining
    split
    next same => exact same ▸ joiner
    · exact joiner

theorem UnitsLaw.dirJoin (h : UnitsLaw s) (awake : s.memb.state ≠ .dormant) (x : Addr) {j : ZRange}
    (jok : j.ok s.port.cfg.z = true) : UnitsLaw (s.dirJoin x j) := by
  unfold State.dirJoin
  split
  · exact h
  next apart =>
    refine UnitsLaw.noticeChange (h.setEntry awake (x := x) (st := .joining)
      (e := { s.entry x with occupied := j, mode := .unplaced }) (by simp) ⟨(h.records.peers.entriesOk x).1, jok⟩ ?_
      fun _ => by simpa using apart) _
    rintro (other | evicting)
    · exact absurd rfl other
    · have before := h.records.peers.directory x
      simpa [State.extent, PeerEntry.extent, evicting] using before

/-- An EVICT that is heard while no eviction pends makes one (R58). -/
theorem UnitsLaw.dirEvict (h : UnitsLaw s) (awake : s.memb.state ≠ .dormant) (free : s.dir.eviction = none) (y : Addr) :
    UnitsLaw (s.dirEvict y) := by
  have peers := h.records.peers
  have ⟨hok, ook⟩ := peers.entriesOk y
  unfold State.dirEvict
  refine UnitsLaw.noticeChange (h.setDir ?_) _
  refine peers.write awake ⟨clip_ok hok _, ook⟩ (PeerEntry.extent_apart nofun fun _ => clip_disjoint _ _ _) (by simp)
    (fun a other => ?_) ?_
  · have settled := peers.absent free a
    simp [settled, Ne.symm other]
  · rintro _ ⟨⟩
    refine ⟨peers.absent free y, fun joining => ?_⟩
    have state : (s.entry y).state = .joining := joining
    simpa [State.extent, PeerEntry.extent, state] using peers.directory y

theorem UnitsLaw.dirRefuse (h : UnitsLaw s) (sender answered : Addr) (tag : Tag) (reason : RefuseReason) :
    UnitsLaw (s.dirRefuse sender answered tag reason) := by
  have peers := h.records.peers
  unfold State.dirRefuse
  split
  · exact h
  next r pends =>
    split
    · exact h.setDir
        { entriesOk := peers.entriesOk
          dormant := fun dormant => by simpa [pends] using (peers.dormant dormant).1
          directory := peers.directory
          absent := nofun
          target := by
            rintro _ ⟨⟩
            exact peers.target r pends
          returns := by
            rintro _ ⟨⟩
            exact peers.returns r pends
          joiner := by
            rintro _ ⟨⟩
            exact peers.joiner r pends }
    · exact h

end

end Sys2Proof.Machine

namespace Sys2Proof

/-- The ranges of a frame are ranges of the rail, as the content check of R22 has them. -/
def Frame.RangesOk (z : Nat) : Frame → Prop
  | .presence held occupied _ => held.ok z = true ∧ occupied.ok z = true
  | .claim _ _ _ _ range => range.ok z = true
  | .grant _ _ range => range ≠ .empty ∧ range.ok z = true
  | .refuse _ _ _ => True
  | .release range => range.ok z = true
  | .join _ occupied => occupied.ok z = true
  | .recall _ _ bound => bound < z
  | .evict _ => True

end Sys2Proof

namespace Sys2Proof.Machine

section
variable {s : State}

theorem UnitsLaw.dirTake (h : UnitsLaw s) (awake : s.memb.state ≠ .dormant) (sender : Addr) {f : Option Frame}
    (ok : ∀ g, f = some g → g.RangesOk s.port.cfg.z)
    (free : ∀ y, f = some (.evict y) → s.dir.eviction = none) : UnitsLaw (s.dirTake sender f) := by
  have touched := h.touch sender
  have awake' : (s.touch sender).memb.state ≠ .dormant := by simpa using awake
  unfold State.dirTake
  split
  next =>
    have ⟨hok, ook⟩ := ok _ rfl
    split
    · exact touched.dirPresence awake' sender (by simpa using hok) (by simpa using ook) _
    · exact touched
  next =>
    have ⟨_, gok⟩ := ok _ rfl
    split
    · exact touched.dirGrant awake' _ (by simpa using gok)
    · exact touched
  next => exact touched.dirRefuse _ _ _ _
  next =>
    split
    · exact touched.dirRelease awake' _ _
    · exact touched
  next =>
    split
    · exact touched.dirJoin awake' _ (by simpa [Frame.RangesOk] using ok _ rfl)
    · exact touched
  next =>
    split
    · exact touched.dirEvict awake' (by simpa using free _ rfl) _
    · exact touched
  all_goals exact touched

/-! ### Ageing, and the resolution of an eviction (R59, R62) -/

/-- The state the rules act on is JOINING or PRESENT, so the entry has that state or is EVICTING. -/
theorem UnitsLaw.silence (h : UnitsLaw s) (awake : s.memb.state ≠ .dormant) {a : Addr}
    (ages : s.standing a = .joining ∨ s.standing a = .present) : UnitsLaw (s.silence a) := by
  have ⟨hok, ook⟩ := h.records.peers.entriesOk a
  unfold State.silence
  refine UnitsLaw.noticeChange (UnitsLaw.queueEvent (h.setEntry awake (x := a) (st := .silent)
    (e := { s.entry a with
      held := if s.standing a = .joining
        then clip s.resv.held ((s.entry a).held.span (s.entry a).occupied) (s.entry a).occupied
        else (s.entry a).held })
    (by simp) ⟨?_, ook⟩ (fun _ => ?_) (by simp)) _) _
  · dsimp only
    split
    · exact clip_ok (ZRange.span_ok hok ook) _
    · exact hok
  · dsimp only
    split
    · exact clip_disjoint _ _ _
    next settled =>
      have present := ages.resolve_left settled
      have before := h.records.peers.directory a
      have state : (s.entry a).state = .present ∨ (s.entry a).state = .evicting := by
        unfold State.standing at present
        split at present
        · exact .inl present
        · split at present
          next target => exact .inr target.2
          · exact .inl present
      exact PeerEntry.held_apart before (state.imp_right .inr)

/-- An eviction ends, and leaves its target an entry that is not EVICTING (R62). -/
theorem UnitsLaw.endEviction (h : UnitsLaw s) {r : EvictionPending} (pends : s.dir.eviction = some r) {e : PeerEntry}
    (ok : e.held.ok s.port.cfg.z = true ∧ e.occupied.ok s.port.cfg.z = true)
    (apart : e.extent.overlaps s.resv.held = false) (settled : e.state ≠ .evicting) :
    UnitsLaw (s.setDir { entries := s.dir.entries.set r.target e, eviction := none }) := by
  have peers := h.records.peers
  have awake : s.memb.state ≠ .dormant := fun dormant => by simp [(peers.dormant dormant).1] at pends
  refine h.setDir (peers.write awake ok apart (by simp [settled]) (fun a other => ?_) nofun)
  rw [peers.evicting_iff]
  simp [pends, Ne.symm other]

theorem UnitsLaw.dirResolve (h : UnitsLaw s) (cause : CloseCause) : UnitsLaw (s.dirResolve cause) := by
  have peers := h.records.peers
  unfold State.dirResolve
  split
  · exact h
  next r pends =>
    have evicting := (peers.target r pends r.target).2 rfl
    have ⟨hok, ook⟩ := peers.entriesOk r.target
    have apart : (s.entry r.target).held.overlaps s.resv.held = false :=
      PeerEntry.held_apart (peers.directory r.target) (.inr (.inr evicting))
    dsimp only
    split
    · have gone := h.endEviction pends
        (e := { s.entry r.target with state := .absent, held := .empty, occupied := .empty, mode := .unplaced })
        (by simp) (by simp [PeerEntry.extent]) (by simp)
      refine UnitsLaw.noticeChange ?_ _
      split
      · exact gone
      · exact gone.queueEvent _
    · exact UnitsLaw.noticeChange (h.endEviction pends (e := { s.entry r.target with state := r.returnState }) ⟨hok, ook⟩
        (PeerEntry.extent_apart (fun joining => peers.joiner r pends joining)
          fun _ => apart)
        (peers.returns r pends)) _

end

end Sys2Proof.Machine

/-! PROOFS. The reservation unit and the membership unit keep the laws of all units: failures and conclusions of claims, the
joining attempt, the answers, and the station's own eviction (R80 to R88, R102 to R116). -/

namespace Sys2Proof.Machine

section
variable {s : State}

/-! ### Failed attempts (R86, R87) -/

theorem UnitsLaw.claimFailed (h : UnitsLaw s) (reason : EventReason) (station : Option Addr) (zone : Nat)
    (watched : List Addr) (side : Side) : UnitsLaw (s.claimFailed reason station zone watched side) := by
  have reported := h.queueEvent (.claimFailed reason station zone)
  have reset : UnitsLaw ((s.queueEvent (.claimFailed reason station zone)).setResv
      { (s.queueEvent (.claimFailed reason station zone)).resv with attempt := 1, attemptSide := none }) :=
    reported.setResv rfl rfl
  exact (reset.waitRearm watched).onClaimFailed side

theorem UnitsLaw.attemptFailed (h : UnitsLaw s) (reason : EventReason) (station : Option Addr) (zone : Nat)
    (watched : List Addr) (side : Side) : UnitsLaw (s.attemptFailed reason station zone watched side) := by
  unfold State.attemptFailed
  split
  · exact h.claimFailed reason station zone watched side
  · have counted : UnitsLaw (s.setResv { s.resv with attempt := s.resv.attempt + 1 }) := h.setResv rfl rfl
    dsimp only
    split
    · exact counted
    · exact counted.waitRearm watched

theorem UnitsLaw.clearAttempts (h : UnitsLaw s) : UnitsLaw s.clearAttempts := h.setResv rfl rfl

/-! ### Adding zones to H (R83) -/

theorem State.taken_eq_false {z : Nat} : s.taken z = false ↔ ∀ a, (s.extent a).has z = false := by
  simp [State.taken, allAddrs]

theorem PeersLaw.extent_ok (h : PeersLaw s) (a : Addr) : (s.extent a).ok s.port.cfg.z = true := by
  have ⟨hok, ook⟩ := h.entriesOk a
  unfold State.extent PeerEntry.extent
  split
  · rfl
  · exact ook
  all_goals exact hok

/-- A range none of whose zones is taken is disjoint from every extent (R65). -/
theorem PeersLaw.disjoint_of_not_taken (h : PeersLaw s) {q : ZRange} {z : Nat} (qok : q.ok z = true)
    (free : ∀ j, q.has j = true → s.taken j = false) (a : Addr) : (s.extent a).overlaps q = false := by
  have eok := h.extent_ok a
  cases q with
  | empty => simp
  | run lo hi =>
    cases he : s.extent a with
    | empty => simp
    | run elo ehi =>
      rw [ZRange.run_overlaps_run]
      rw [he, ZRange.run_ok] at eok
      rw [ZRange.run_ok] at qok
      by_contra meets
      have own : (ZRange.run lo hi).has (max elo lo) = true := by
        simp [ZRange.has]
        omega
      have apart := State.taken_eq_false.1 (free _ own) a
      simp [he, ZRange.has] at apart
      omega

/-- The clip at a conclusion leaves the reservation as it was, and a part of the candidate in which no zone is taken
(R83). -/
structure ClipSpec (s : State) (candidate : ZRange) (clipped : State × ZRange) : Prop where
  units : UnitsLaw clipped.1
  resv : clipped.1.resv = s.resv
  ok : clipped.2.ok s.port.cfg.z = true
  inside : clipped.2.inside candidate = true
  free : ∀ j, clipped.2.has j = true → s.taken j = false

theorem State.resv_release_apart {r : ZRange} {side : Side} (apart : s.resv.held.overlaps r = false) :
    (s.release r side).resv = s.resv := by
  unfold State.release
  rw [ZRange.remove_of_disjoint apart]
  split <;> simp

theorem UnitsLaw.clipCandidate (h : UnitsLaw s) {candidate : ZRange} (ok : candidate.ok s.port.cfg.z = true)
    (apart : candidate.overlaps s.resv.held = false) (side : Side) :
    ClipSpec s candidate (s.clipCandidate side candidate) := by
  unfold State.clipCandidate
  split
  next all =>
    refine ⟨h, rfl, ok, ZRange.inside_refl _, fun j hj => ?_⟩
    have none := List.find?_eq_none.1 all j (ZRange.mem_zonesFrom.2 hj)
    simpa using none
  next z first =>
    have ⟨ok', inside, free⟩ := splitAt_fst_spec ok first
    have within : candidate.has z = true := ZRange.mem_zonesFrom.1 (List.mem_of_find?_eq_some first)
    have rest : s.resv.held.overlaps (splitAt side candidate z).2 = false :=
      (ZRange.overlaps_comm _ _).trans (ZRange.disjoint_of_inside (splitAt_snd_inside within) apart)
    dsimp only
    split
    · exact ⟨(h.queueEvent _).release_apart (by simpa using rest) side,
        (State.resv_release_apart (by simpa using rest)).trans (by simp), ok', inside, free⟩
    · exact ⟨h.release_apart rest side, State.resv_release_apart rest, ok', inside, free⟩

/-- The records where H takes up an adjacent range that no peer has taken, while no claim waits and no eviction pends. -/
theorem RecordsLaw.grow (h : RecordsLaw s) (joined : s.memb.state = .joined) (settled : s.claimWaiting = false)
    (free : s.dir.eviction = none) {q : ZRange} {side : Side} (qok : q.ok s.port.cfg.z = true)
    (adjacent : q.adjacent s.resv.held side = true) (vacant : ∀ a, (s.extent a).overlaps q = false) :
    RecordsLaw (s.setResv { s.resv with held := s.resv.held.span q }) where
  ties := h.ties.congr rfl rfl rfl rfl rfl
  waiting r claim waits := by
    have claim : s.resv.claim = some r := claim
    simp [State.claimWaiting, claim, waits] at settled
  peers :=
    { entriesOk := h.peers.entriesOk
      dormant := h.peers.dormant
      directory := fun a => ZRange.disjoint_span_of_adjacent adjacent h.member.heldOk qok (h.peers.extent_ok a)
        (h.peers.directory a) (vacant a)
      absent := h.peers.absent
      target := h.peers.target
      returns := h.peers.returns
      joiner := fun r pends => by
        have pends : s.dir.eviction = some r := pends
        simp [free] at pends }
  member :=
    { h.member with
      heldOnlyJoined := fun other => absurd joined other
      heldOk := ZRange.span_ok h.member.heldOk qok }

theorem ZRange.span_ne_empty {q r : ZRange} (h : q ≠ .empty) : q.span r ≠ .empty := by
  cases q with
  | empty => exact absurd rfl h
  | run => cases r <;> simp [ZRange.span]

/-- A concluded claim adds its candidate range to H, where no eviction pends (R83, R85). -/
theorem UnitsLaw.addRange (h : UnitsLaw s) (joined : s.memb.state = .joined) (settled : s.claimWaiting = false)
    (free : s.dir.eviction = none) {candidate : ZRange} (ok : candidate.ok s.port.cfg.z = true)
    (apart : candidate.overlaps s.resv.held = false) (r : ClaimRecord) (side : Side) :
    UnitsLaw (s.addRange r side candidate) := by
  have ⟨units, resv, ok', inside, vacant⟩ := h.clipCandidate ok apart side
  have apart' : (s.clipCandidate side candidate).1.resv.held.overlaps (s.clipCandidate side candidate).2 = false := by
    rw [resv, ZRange.overlaps_comm]
    exact ZRange.disjoint_of_inside inside apart
  have vacant' : ∀ a, ((s.clipCandidate side candidate).1.extent a).overlaps (s.clipCandidate side candidate).2 = false :=
    fun a => by simpa [State.extent, State.entry] using h.records.peers.disjoint_of_not_taken ok' vacant a
  unfold State.addRange
  dsimp only
  split
  · exact (units.release_apart apart' side).clearAttempts
  split
  · exact units.attemptFailed _ _ _ _ _
  split
  next adjacent =>
    have held := h.drive.heldJoined joined
    refine UnitsLaw.clearAttempts (units.setHeld_grow (ZRange.inside_span _ _) ?_ ?_)
    · exact ZRange.span_ne_empty (by rwa [resv])
    · exact units.records.grow (by simpa using joined) (by simpa [State.claimWaiting, resv] using settled)
        (by simpa using free) (by simpa using ok') adjacent vacant'
  · exact (units.release_apart apart' side).clearAttempts

theorem UnitsLaw.disclaim (h : UnitsLaw s) {r : ClaimRecord} (apart : r.requested.overlaps s.resv.held = false)
    (side : Side) (reason : EventReason) : UnitsLaw (s.disclaim r side reason) := by
  have released := h.release_apart (r := r.requested) (by rwa [ZRange.overlaps_comm]) side
  unfold State.disclaim
  dsimp only
  split
  · exact released.clearAttempts
  · exact released.attemptFailed _ _ _ _ _

/-! ### The conclusion of a claim (R80, R82) -/

/-- While a claim waits the station is JOINED, has no join record, and no CLAIM stands in the queue (R68, R79, R101). -/
theorem TiesLaw.of_claim (h : TiesLaw s) {r : ClaimRecord} (claim : s.resv.claim = some r)
    (flies : r.phase = .queued ∨ r.phase = .waiting) :
    s.memb.state = .joined ∧ s.memb.join = none ∧ (r.phase = .waiting → s.access.queue.any QEntry.isClaim = false) := by
  have joined : s.memb.state = .joined := by
    by_contra other
    have idle := h.claimOnlyJoined other
    rcases flies with phase | phase <;> simp [State.claimInFlight, claim, phase] at idle
  refine ⟨joined, ?_, fun waits => ?_⟩
  · by_contra some
    have joining := h.joinOnlyJoining (Option.isSome_iff_ne_none.2 some)
    simp [joined] at joining
  · by_contra queued
    obtain ⟨r', claim', phase⟩ := h.claimEntry (by simpa using queued)
    obtain rfl := Option.some.inj (claim.symm.trans claim')
    simp [phase] at waits

/-- A waiting claim is concluded, and its window is outstanding no longer (R82). -/
theorem UnitsLaw.markConcluded (h : UnitsLaw s) {r0 : ClaimRecord} (claim : s.resv.claim = some r0)
    (waits : r0.phase = .waiting) (r : ClaimRecord) (outcome : ClaimOutcome) :
    UnitsLaw (s.markConcluded r outcome) ∧ (s.markConcluded r outcome).claimWaiting = false := by
  have ⟨joined, alone, noEntry⟩ := h.records.ties.of_claim claim (.inr waits)
  refine ⟨h.ofRecords (t := s.markConcluded r outcome) ?_ rfl rfl rfl rfl rfl, by
    simp [State.markConcluded, State.claimWaiting]⟩
  exact
    { ties :=
        { queue := h.records.ties.queue
          claimOnlyJoined := fun other => absurd joined other
          claimEntry := fun some => by
            have some : s.access.queue.any QEntry.isClaim = true := some
            simp [noEntry waits] at some
          joinOnlyJoining := h.records.ties.joinOnlyJoining
          outstanding := by simp [State.markConcluded, State.ownFrameOut, State.claimWaiting, alone]
          joinEntry := h.records.ties.joinEntry }
      waiting := by
        rintro _ ⟨⟩
        simp
      peers := h.records.peers.congr rfl (fun _ => ⟨rfl, rfl, rfl⟩) rfl rfl rfl
      member := h.records.member.congr rfl rfl rfl rfl rfl rfl rfl }

theorem ClaimRecord.concludes_granted {r : ClaimRecord} (h : r.concludes = .granted) :
    r.inconclusive = false ∧ ∃ g, r.grant = some g := by
  unfold ClaimRecord.concludes at h
  split_ifs at h
  simp_all [Option.isSome_iff_exists]

theorem ClaimRecord.concludes_unopposed {r : ClaimRecord} (h : r.concludes = .unopposed) : r.inconclusive = false := by
  unfold ClaimRecord.concludes at h
  split_ifs at h
  simp_all

/-- A waiting claim concludes; only a claim that is not inconclusive can add zones, and then no eviction may pend. -/
theorem UnitsLaw.concludeClaim (h : UnitsLaw s) {inconclusive : Bool}
    (free : inconclusive = true ∨ s.dir.eviction = none) : UnitsLaw (s.concludeClaim inconclusive) := by
  unfold State.concludeClaim
  split
  · exact h
  next r0 claim =>
    split
    · exact h
    next waits =>
      have waits : r0.phase = .waiting := not_not.1 waits
      have law := h.records.waiting r0 claim waits
      have ⟨joined, _, _⟩ := h.records.ties.of_claim claim (.inr waits)
      let r : ClaimRecord := { r0 with inconclusive := r0.inconclusive || inconclusive }
      have ⟨marked, settled⟩ := h.markConcluded claim waits r r.concludes
      have ⟨_, rok, apart⟩ := law.requested
      have decided (conclusive : r.inconclusive = false) : s.dir.eviction = none :=
        free.resolve_left fun lost => by simp [r, lost] at conclusive
      have adds {candidate : ZRange} (conclusive : r.inconclusive = false) (ok : candidate.ok s.port.cfg.z = true)
          (inside : candidate.inside r0.requested = true) :
          UnitsLaw ((s.markConcluded r r.concludes).addRange r (r.side.getD .down) candidate) :=
        marked.addRange (by simpa using joined) settled (by simpa using decided conclusive) (by simpa using ok)
          (by simpa using ZRange.disjoint_of_inside inside apart) r _
      have fails (reason : EventReason) :
          UnitsLaw ((s.markConcluded r r.concludes).disclaim r (r.side.getD .down) reason) :=
        marked.disclaim (by simpa using apart) _ reason
      refine UnitsLaw.formClaim ?_
      split
      next granted =>
        obtain ⟨conclusive, g, grant⟩ := ClaimRecord.concludes_granted granted
        have ⟨_, gok, inside⟩ := law.grant g grant
        have chosen : (r0.grant).getD .empty = g := by
          have grant : r0.grant = some g := grant
          simp [grant]
        rw [chosen]
        exact adds conclusive gok inside
      next unopposed => exact adds (ClaimRecord.concludes_unopposed unopposed) rok (ZRange.inside_refl _)
      all_goals exact fails _

/-! ### The claim at its handover (R76 to R79) -/

theorem UnitsLaw.readNeedSide (h : UnitsLaw s) (side : Side) : UnitsLaw (s.readNeedSide side) := h.setResv rfl rfl

/-- The queue loses some of its entries. -/
theorem TiesLaw.dequeue (h : TiesLaw s) {x : AccessUnit} (fewer : List.Sublist x.queue s.access.queue)
    (own : x.ownWindow = s.access.ownWindow) : TiesLaw (s.setAccess x) where
  queue := h.queue.sublist fewer
  claimOnlyJoined := h.claimOnlyJoined
  claimEntry some := h.claimEntry (by
    obtain ⟨e, he, isClaim⟩ := List.any_eq_true.1 some
    exact List.any_eq_true.2 ⟨e, fewer.subset he, isClaim⟩)
  joinOnlyJoining := h.joinOnlyJoining
  outstanding := own.trans h.outstanding
  joinEntry some := h.joinEntry (by
    obtain ⟨e, he, isJoin⟩ := List.any_eq_true.1 some
    exact List.any_eq_true.2 ⟨e, fewer.subset he, isJoin⟩)

theorem UnitsLaw.setAccess (h : UnitsLaw s) {x : AccessUnit} (fewer : List.Sublist x.queue s.access.queue)
    (own : x.ownWindow = s.access.ownWindow) : UnitsLaw (s.setAccess x) :=
  h.ofRecords
    { ties := h.records.ties.dequeue fewer own
      waiting := h.records.waiting
      peers := h.records.peers.congr rfl (fun _ => ⟨rfl, rfl, rfl⟩) rfl rfl rfl
      member := h.records.member.congr rfl rfl rfl rfl rfl rfl rfl } rfl rfl rfl rfl rfl

theorem UnitsLaw.dropClaimEntry (h : UnitsLaw s) : UnitsLaw s.dropClaimEntry := h.setAccess List.filter_sublist rfl

theorem State.no_claim_dropClaimEntry (s : State) : s.dropClaimEntry.access.queue.any QEntry.isClaim = false := by
  simp [State.dropClaimEntry]

/-- A claim whose entry has left the queue is given up or takes an outcome of its own (R76, R77, R78). -/
theorem UnitsLaw.settleClaim (h : UnitsLaw s) (noEntry : s.access.queue.any QEntry.isClaim = false)
    (idle : s.claimWaiting = false) {x : Reservation} (held : x.held = s.resv.held)
    (settled : (s.setResv x).claimInFlight = false) : UnitsLaw (s.setResv x) := by
  have quiet := State.claimWaiting_of_not_inFlight settled
  refine h.ofRecords ?_ rfl held rfl rfl rfl
  exact
    { ties := h.records.ties.setResv (fun _ => settled) (by simp [noEntry]) (quiet.trans idle.symm)
      waiting := fun r claim waits => by
        have claim : x.claim = some r := claim
        simp [State.claimWaiting, claim, waits] at quiet
      peers := h.records.peers.congr rfl (fun _ => ⟨rfl, rfl, rfl⟩) held rfl rfl
      member := h.records.member.congr rfl rfl held rfl rfl rfl rfl }

theorem UnitsLaw.concludeLocally (h : UnitsLaw s) (noEntry : s.access.queue.any QEntry.isClaim = false)
    (idle : s.claimWaiting = false) (outcome : ClaimOutcome) : UnitsLaw (s.concludeLocally outcome) := by
  unfold State.concludeLocally
  split
  · exact h
  · exact h.settleClaim noEntry idle rfl (by simp [State.claimInFlight])

/-- A CLAIM that comes up and finds nothing to send, while its record is QUEUED (R76, R77, R78). -/
theorem UnitsLaw.claimNotSent (h : UnitsLaw s) (idle : s.claimWaiting = false) (plan : ClaimPlan) :
    UnitsLaw (s.claimNotSent plan) := by
  have dropped := h.dropClaimEntry
  have noEntry := s.no_claim_dropClaimEntry
  unfold State.claimNotSent
  dsimp only
  split
  · exact dropped.settleClaim noEntry idle rfl (by simp [State.claimInFlight])
  · exact (((dropped.readNeedSide _).concludeLocally noEntry idle _).claimFailed _ _ _ _ _).formClaim
  · exact (((dropped.readNeedSide _).concludeLocally noEntry idle _).attemptFailed _ _ _ _ _).formClaim
  · exact dropped

/-- A plan to send is a plan for the requested range of the need (R78). -/
theorem State.claimPlan_send {side : Side} {range : ZRange} {addressee : Option Addr}
    (plan : s.claimPlan = .send side range addressee) :
    ∃ n, s.motion.need = some n ∧ s.requestedRange n = range ∧ range ≠ .empty := by
  unfold State.claimPlan at plan
  split at plan
  · simp at plan
  next n asked =>
    refine ⟨n, asked, ?_⟩
    cases asks : s.requestedRange n with
    | empty =>
      simp only [asks] at plan
      split at plan
      · simp at plan
      · split at plan <;> simp at plan
    | run lo hi =>
      suffices same : ZRange.run lo hi = range by
        subst same
        exact ⟨rfl, nofun⟩
      simp only [asks] at plan
      split at plan
      · exact (ClaimPlan.send.inj plan).2.1
      · split at plan
        · simp at plan
        · simp at plan
        all_goals exact (ClaimPlan.send.inj plan).2.1

/-- The range a claim is sent for lies on the rail and outside H (R73, R78). -/
theorem NeedLaw.requested (need : NeedLaw s) {side : Side} {range : ZRange} {addressee : Option Addr}
    (plan : s.claimPlan = .send side range addressee) :
    range ≠ .empty ∧ range.ok s.port.cfg.z = true ∧ range.overlaps s.resv.held = false := by
  obtain ⟨n, asked, rfl, nonempty⟩ := s.claimPlan_send plan
  have ⟨order, rail, apart⟩ := need.asks n asked
  have ⟨ok, inside⟩ := ZRange.leadingPart_spec (ZRange.run_ok.2 ⟨order, rail⟩) (nearEnd n.side) fun z => !s.taken z
  exact ⟨nonempty, ok, ZRange.disjoint_of_inside inside apart⟩

end

end Sys2Proof.Machine

/-! PROOFS. The handover and the membership unit keep the laws of all units (R33 to R35, R76 to R79, R99 to R116). -/

namespace Sys2Proof.Machine

section
variable {s : State}

/-! ### Selection and transmission (R23, R33, R35) -/

theorem State.oldestOf_mem {cls : Nat} {e : QEntry} (h : s.oldestOf cls = some e) : e ∈ s.access.queue := by
  unfold State.oldestOf at h
  dsimp only at h
  split at h
  next found =>
    obtain rfl := Option.some.inj h
    exact List.mem_of_mem_filter (List.mem_of_find?_eq_some found)
  next => exact List.mem_of_mem_filter (List.mem_of_mem_head? h)

theorem State.selected_mem {e : QEntry} (h : s.selected = some e) : e ∈ s.access.queue := by
  obtain ⟨cls, _, oldest⟩ := List.exists_of_findSome?_eq_some h
  exact State.oldestOf_mem oldest

/-- Of a CLAIM or a JOIN that leaves the queue there was no other (R37). -/
theorem QueueLimits.alone {q : List QEntry} (h : QueueLimits q) {e : QEntry} (he : e ∈ q) (own : e.isClaimOrJoin = true) :
    (q.erase e).any QEntry.isClaimOrJoin = false := by
  have one := h.claimOrJoin
  have none : (q.erase e).countP QEntry.isClaimOrJoin = 0 := by
    rw [List.countP_erase]
    simp [he, own]
    omega
  simpa [List.countP_eq_zero] using none

theorem any_isClaim_of_any {q : List QEntry} (h : q.any QEntry.isClaimOrJoin = false) :
    q.any QEntry.isClaim = false ∧ q.any QEntry.isJoin = false := by
  simp only [List.any_eq_false, QEntry.isClaimOrJoin] at *
  exact ⟨fun e he claim => h e he (by simp [claim]), fun e he join => h e he (by simp [join])⟩

/-- A station whose receiver waits for a burst is neither DORMANT nor EVICTED (R16). -/
theorem MemberLaw.awake (h : MemberLaw s) (on : s.line.rx ≠ .off) :
    s.memb.state ≠ .dormant ∧ s.memb.state ≠ .evicted :=
  ⟨fun state => on (h.receiverOff (.inl state)), fun state => on (h.receiverOff (.inr state))⟩

/-- The receiver of a station that is neither DORMANT nor EVICTED changes (R16). -/
theorem UnitsLaw.setLine (h : UnitsLaw s) (dormant : s.memb.state ≠ .dormant) (evicted : s.memb.state ≠ .evicted)
    (x : LineUnit) : UnitsLaw (s.setLine x) :=
  h.ofRecords
    { ties := h.records.ties.congr rfl rfl rfl rfl rfl
      waiting := h.records.waiting
      peers := h.records.peers.congr rfl (fun _ => ⟨rfl, rfl, rfl⟩) rfl rfl rfl
      member :=
        { h.records.member with receiverOff := fun off => absurd off (by simp [dormant, evicted]) } } rfl rfl rfl rfl rfl

theorem UnitsLaw.transmit (h : UnitsLaw s) (await : s.line.rx = .await) (e : QEntry) (f : Frame) :
    UnitsLaw (s.transmit e f) :=
  have ⟨dormant, evicted⟩ := h.records.member.awake (by simp [await])
  (h.setLine dormant evicted _).setAccess List.erase_sublist rfl

theorem UnitsLaw.handOver (h : UnitsLaw s) (e : QEntry) (f : Frame) : UnitsLaw (s.handOver e f) := by
  unfold State.handOver
  split
  next await => exact h.transmit await e f
  next => exact h

/-- A CLAIM has been handed over: its record waits, and its window is outstanding (R79). -/
theorem UnitsLaw.claimSent (h : UnitsLaw s) {r : ClaimRecord} (claim : s.resv.claim = some r) (queued : r.phase = .queued)
    (noEntry : s.access.queue.any QEntry.isClaim = false) {side : Side} {range : ZRange} {addressee : Option Addr}
    (outside : range ≠ .empty ∧ range.ok s.port.cfg.z = true ∧ range.overlaps s.resv.held = false) :
    UnitsLaw (s.claimSent side range addressee) := by
  have ⟨joined, _, _⟩ := h.records.ties.of_claim claim (.inl queued)
  refine h.ofRecords (t := s.claimSent side range addressee) ?_ rfl rfl rfl rfl rfl
  exact
    { ties :=
        { queue := h.records.ties.queue
          claimOnlyJoined := fun other => absurd joined other
          claimEntry := fun some => by
            have some : s.access.queue.any QEntry.isClaim = true := some
            simp [noEntry] at some
          joinOnlyJoining := h.records.ties.joinOnlyJoining
          outstanding := by simp [State.claimSent, State.ownFrameOut, State.claimWaiting]
          joinEntry := h.records.ties.joinEntry }
      waiting := by
        rintro _ ⟨⟩ _
        exact ⟨rfl, outside, nofun⟩
      peers := h.records.peers.congr rfl (fun _ => ⟨rfl, rfl, rfl⟩) rfl rfl rfl
      member := h.records.member.congr rfl rfl rfl rfl rfl rfl rfl }

/-- A JOIN has been handed over: its record waits, and its window is outstanding (R103). -/
theorem UnitsLaw.joinSent (h : UnitsLaw s) (noEntry : s.access.queue.any QEntry.isJoin = false)
    (queued : ∀ r, s.memb.join = some r → r.phase = .queued) : UnitsLaw s.joinSent := by
  unfold State.joinSent
  split
  · exact h
  next r join =>
    have law := h.records.member.join r join
    refine h.ofRecords ?_ rfl rfl rfl rfl rfl
    exact
      { ties :=
          { queue := h.records.ties.queue
            claimOnlyJoined := h.records.ties.claimOnlyJoined
            claimEntry := h.records.ties.claimEntry
            joinOnlyJoining := fun _ => h.records.ties.joinOnlyJoining (by simp [join])
            outstanding := by simp [State.ownFrameOut]
            joinEntry := fun some => by
              have some : s.access.queue.any QEntry.isJoin = true := some
              simp [noEntry] at some }
        waiting := h.records.waiting
        peers := h.records.peers.congr rfl (fun _ => ⟨rfl, rfl, rfl⟩) rfl rfl rfl
        member :=
          { h.records.member with
            join := by
              rintro _ ⟨⟩
              refine ⟨law.occupied, fun none => ?_, law.low, law.high⟩
              have reading := law.read none
              simp [queued r join] at reading } }

theorem QEntry.isClaim_iff {e : QEntry} : e.isClaim = true ↔ e.payload = .claim := by
  simp [QEntry.isClaim]

theorem UnitsLaw.handoverLoop (h : UnitsLaw s) (fuel : Nat) : UnitsLaw (s.handoverLoop fuel) := by
  induction fuel generalizing s with
  | zero => exact h
  | succ fuel ih =>
    unfold State.handoverLoop
    split
    · exact h
    next e chosen =>
      have mem := State.selected_mem chosen
      split
      next => exact h.handOver e _
      next payload =>
        have isClaim : e.isClaim = true := QEntry.isClaim_iff.2 payload
        obtain ⟨r, claim, queued⟩ := h.records.ties.claimEntry (List.any_eq_true.2 ⟨e, mem, isClaim⟩)
        split
        next side range addressee plan =>
          dsimp only
          split
          next await =>
            have gone := (any_isClaim_of_any (h.records.ties.queue.alone mem (by simp [QEntry.isClaimOrJoin, isClaim]))).1
            refine UnitsLaw.claimSent ((h.readNeedSide side).transmit await e _) (r := r) (by simpa using claim) queued
              ?_ (by simpa using h.need.requested plan)
            simpa [State.transmit, State.readNeedSide] using gone
          next => exact h.readNeedSide side
        next => exact ih (h.claimNotSent (by simp [State.claimWaiting, claim, queued]) _)
      next f payload =>
        split
        next joins =>
          have ⟨isJoin, await⟩ : e.isJoin = true ∧ s.line.rx = .await := by simpa using joins
          have gone := (any_isClaim_of_any (h.records.ties.queue.alone mem (by simp [QEntry.isClaimOrJoin, isJoin]))).2
          refine UnitsLaw.joinSent (h.transmit await e f) gone fun r join => ?_
          obtain ⟨r', join', queued⟩ := h.records.ties.joinEntry (List.any_eq_true.2 ⟨e, mem, isJoin⟩)
          obtain rfl := Option.some.inj (join.symm.trans join')
          exact queued
        next => exact h.handOver e f

theorem UnitsLaw.kick (h : UnitsLaw s) : UnitsLaw s.kick := by
  unfold State.kick State.handover
  split
  · split
    · exact h
    · exact h
    all_goals exact h.handoverLoop _
  · exact h

theorem UnitsLaw.handover (h : UnitsLaw s) : UnitsLaw s.handover := by
  unfold State.handover
  split
  · exact h
  · exact h
  all_goals exact h.handoverLoop _

/-! ### The answers of the reservation unit (R81, R89) -/

theorem UnitsLaw.amendClaim (h : UnitsLaw s) {r r' : ClaimRecord} (claim : s.resv.claim = some r)
    (phase : r'.phase = r.phase)
    (law : ClaimLaw s.port.cfg.z s.resv.held r → ClaimLaw s.port.cfg.z s.resv.held r') :
    UnitsLaw (s.setResv { s.resv with claim := some r' }) :=
  h.ofRecords (h.records.amendClaim claim phase law) rfl rfl rfl rfl rfl

theorem isLeadingPart_inside {side : Side} {g requested : ZRange} (h : isLeadingPart side g requested = true) :
    g.inside requested = true := by
  unfold isLeadingPart at h
  split at h
  · simp at h ⊢
    omega
  · simp at h ⊢
    omega
  · simp at h

theorem UnitsLaw.claimGrant (h : UnitsLaw s) (sender claimant : Addr) (tag : Tag) {g : ZRange} (nonempty : g ≠ .empty)
    (ok : g.ok s.port.cfg.z = true) : UnitsLaw (s.claimGrant sender claimant tag g) := by
  unfold State.claimGrant
  split
  · exact h
  next r claim =>
    split
    next taken =>
      obtain ⟨-, -, fits, -⟩ := taken
      have leads : isLeadingPart (r.side.getD .down) g r.requested = true := by
        simp only [ClaimRecord.matchesGrant, Bool.and_eq_true] at fits
        exact fits.2
      refine h.amendClaim claim rfl fun law => ⟨law.side, law.requested, ?_⟩
      rintro _ ⟨⟩
      exact ⟨nonempty, ok, isLeadingPart_inside leads⟩
    next => exact h

theorem UnitsLaw.claimRefuse (h : UnitsLaw s) (sender answered : Addr) (tag : Tag) (reason : RefuseReason) :
    UnitsLaw (s.claimRefuse sender answered tag reason) := by
  unfold State.claimRefuse
  split
  · exact h
  next r claim =>
    split
    · exact h.amendClaim claim rfl fun law => ⟨law.side, law.requested, law.grant⟩
    · exact h

/-- An addressee answers with a REFUSE or a GRANT (R91, R92). -/
theorem State.addresseeAnswer_cases (s : State) (x : Addr) (tag : Tag) (side : Side) (range : ZRange) :
    (∃ reason, s.addresseeAnswer x tag side range = .refuse x tag reason) ∨
      ∃ g, s.addresseeAnswer x tag side range = .grant x tag g := by
  unfold State.addresseeAnswer
  dsimp only
  split
  · exact .inl ⟨_, rfl⟩
  split
  · exact .inl ⟨_, rfl⟩
  split
  · exact .inl ⟨_, rfl⟩
  split
  · split
    · exact .inl ⟨_, rfl⟩
    · exact .inl ⟨_, rfl⟩
  · exact .inr ⟨_, rfl⟩

/-- A third party answers with a REFUSE, if at all (R93, R94). -/
theorem State.thirdPartyAnswer_refuses {x : Addr} {tag : Tag} {range : ZRange} {f : Frame}
    (answer : s.thirdPartyAnswer x tag range = some f) : ∃ reason, f = .refuse x tag reason := by
  unfold State.thirdPartyAnswer at answer
  split at answer
  · split_ifs at answer
    · exact ⟨_, (Option.some.inj answer).symm⟩
    · exact ⟨_, (Option.some.inj answer).symm⟩
  · split at answer
    · split_ifs at answer
      exact ⟨_, (Option.some.inj answer).symm⟩
    · simp at answer
  · split at answer
    · split_ifs at answer
      exact ⟨_, (Option.some.inj answer).symm⟩
    · simp at answer
  all_goals simp at answer

theorem State.claimAnswer_cases {x addressee : Addr} {tag : Tag} {side : Side} {unopposed : Bool} {range : ZRange}
    {f : Frame} (answer : s.claimAnswer x addressee tag side unopposed range = some f) :
    (∃ reason, f = .refuse x tag reason) ∨ ∃ g, f = .grant x tag g := by
  unfold State.claimAnswer at answer
  split at answer
  · obtain rfl := Option.some.inj answer
    exact s.addresseeAnswer_cases x tag side range
  · exact .inl (State.thirdPartyAnswer_refuses answer)

theorem UnitsLaw.answerClaim (h : UnitsLaw s) (x addressee : Addr) (tag : Tag) (side : Side) (unopposed : Bool)
    (range : ZRange) : UnitsLaw (s.answerClaim x addressee tag side unopposed range) := by
  unfold State.answerClaim
  split
  · exact h
  next f answer =>
    obtain ⟨reason, rfl⟩ | ⟨g, rfl⟩ := State.claimAnswer_cases answer
    · exact h.offer rfl rfl
    · exact h.offer rfl rfl

/-! ### The membership record (R98) -/

/-- The membership unit changes, but not its state. -/
theorem UnitsLaw.setMemb (h : UnitsLaw s) {x : Membership} (state : x.state = s.memb.state) (ties : TiesLaw (s.setMemb x))
    (join : ∀ r, x.join = some r → JoinLaw s.port.cfg.z r) : UnitsLaw (s.setMemb x) :=
  h.ofRecords
    { ties := ties
      waiting := h.records.waiting
      peers := h.records.peers.congr rfl (fun _ => ⟨rfl, rfl, rfl⟩) rfl rfl state
      member :=
        { heldOnlyJoined := fun other => h.records.member.heldOnlyJoined (state ▸ other)
          heldOk := h.records.member.heldOk
          heldDormant := fun holds => state.trans (h.records.member.heldDormant holds)
          receiverOff := fun off => h.records.member.receiverOff (state ▸ off)
          started := fun awake => h.records.member.started (state ▸ awake)
          config := h.records.member.config
          join := join } } rfl rfl state rfl rfl

/-- The membership unit changes, but neither its state nor its join record. -/
theorem UnitsLaw.setMembRest (h : UnitsLaw s) {x : Membership} (state : x.state = s.memb.state)
    (join : x.join = s.memb.join) : UnitsLaw (s.setMemb x) :=
  h.setMemb state (h.records.ties.congr rfl rfl rfl state join) fun r some => h.records.member.join r (join ▸ some)

theorem UnitsLaw.makePresenceDue (h : UnitsLaw s) : UnitsLaw s.makePresenceDue := by
  unfold State.makePresenceDue
  split
  · exact h
  · have due : UnitsLaw (s.setMemb { s.memb with presenceDue := true }) := h.setMembRest rfl rfl
    exact due.offer (e := presenceEntry) rfl rfl

theorem UnitsLaw.presenceSent (h : UnitsLaw s) : UnitsLaw s.presenceSent := h.setMembRest rfl rfl

/-- The join record changes, but not its phase. -/
theorem UnitsLaw.amendJoin (h : UnitsLaw s) {r r' : JoinRecord} (join : s.memb.join = some r) (phase : r'.phase = r.phase)
    (law : JoinLaw s.port.cfg.z r → JoinLaw s.port.cfg.z r') :
    UnitsLaw (s.setMemb { s.memb with join := some r' }) := by
  refine h.setMemb rfl ?_ ?_
  · exact
      { queue := h.records.ties.queue
        claimOnlyJoined := h.records.ties.claimOnlyJoined
        claimEntry := h.records.ties.claimEntry
        joinOnlyJoining := fun _ => h.records.ties.joinOnlyJoining (by simp [join])
        outstanding := by
          have before := h.records.ties.outstanding
          simp only [State.ownFrameOut, join] at before
          rw [← phase] at before
          exact before
        joinEntry := fun some => by
          obtain ⟨r0, join0, queued⟩ := h.records.ties.joinEntry some
          obtain rfl := Option.some.inj (join.symm.trans join0)
          exact ⟨r', rfl, phase.trans queued⟩ }
  · rintro _ ⟨⟩
    exact law (h.records.member.join r join)

/-! ### Answers to this station's join (R104) -/

/-- A RECALL whose bound lies on the rail tightens a bound outside J (R104). -/
theorem JoinLaw.takeRecall {z : Nat} {r : JoinRecord} (h : JoinLaw z r) (sender : Addr) (side : Side) {bound : Nat}
    (rail : bound < z) : JoinLaw z (r.takeRecall sender side bound) := by
  unfold JoinRecord.takeRecall
  split
  next jlo jhi occ =>
    split
    next low =>
      refine ⟨h.occupied, h.read, fun b lo hi kept occ' => ?_, h.high⟩
      obtain ⟨rfl, rfl⟩ : jlo = lo ∧ jhi = hi := by simpa using occ.symm.trans occ'
      obtain rfl := Option.some.inj kept
      unfold tighterLow
      split
      · exact low
      next v before => exact Nat.max_le.2 ⟨h.low v jlo jhi before occ, low⟩
    next => exact h
  next jlo jhi occ =>
    split
    next high =>
      refine ⟨h.occupied, h.read, h.low, fun b lo hi kept occ' => ?_⟩
      obtain ⟨rfl, rfl⟩ : jlo = lo ∧ jhi = hi := by simpa using occ.symm.trans occ'
      obtain rfl := Option.some.inj kept
      unfold tighterHigh
      split
      · exact ⟨high, rail⟩
      next v before =>
        have ⟨above, inRail⟩ := h.high v jlo jhi before occ
        exact ⟨Nat.le_min.2 ⟨above, high⟩, by omega⟩
    next => exact h
  next => exact h

theorem JoinRecord.phase_takeRecall (r : JoinRecord) (sender : Addr) (side : Side) (bound : Nat) :
    (r.takeRecall sender side bound).phase = r.phase := by
  unfold JoinRecord.takeRecall
  split
  · split <;> rfl
  · split <;> rfl
  · rfl

theorem JoinRecord.takeRefuse_keeps (r : JoinRecord) (sender : Addr) (reason : RefuseReason) :
    (r.takeRefuse sender reason).phase = r.phase ∧ (r.takeRefuse sender reason).occupied = r.occupied ∧
    (r.takeRefuse sender reason).lowBound = r.lowBound ∧ (r.takeRefuse sender reason).highBound = r.highBound := by
  unfold JoinRecord.takeRefuse
  split
  · split <;> simp
  all_goals simp

theorem UnitsLaw.joinRecall (h : UnitsLaw s) (sender joiner : Addr) (side : Side) {bound : Nat}
    (rail : bound < s.port.cfg.z) : UnitsLaw (s.joinRecall sender joiner side bound) := by
  unfold State.joinRecall
  split
  · exact h
  next r join =>
    split
    · exact h.amendJoin join (r.phase_takeRecall ..) fun law => law.takeRecall sender side rail
    · exact h

theorem UnitsLaw.joinRefuse (h : UnitsLaw s) (sender answered : Addr) (tag : Tag) (reason : RefuseReason) :
    UnitsLaw (s.joinRefuse sender answered tag reason) := by
  unfold State.joinRefuse
  split
  · exact h
  next r join =>
    have ⟨phase, occupied, low, high⟩ := r.takeRefuse_keeps sender reason
    split
    · exact h.amendJoin join phase fun law =>
        ⟨by simpa [occupied] using law.occupied, by simpa [occupied, phase] using law.read,
          by simpa [occupied, low] using law.low, by simpa [occupied, high] using law.high⟩
    · exact h

/-! ### The joining attempt (R99, R102, R108 to R110) -/

/-- The engine of a station outside JOINED and EVICTED is UNPLACED, its place unknown and STEP low, with no fault (R97,
R121, R166). -/
theorem DriveLaw.outside (h : DriveLaw s) (joined : s.memb.state ≠ .joined) (evicted : s.memb.state ≠ .evicted) :
    s.motion.state = .unplaced ∧ s.motion.known = false ∧ s.motion.stepHigh = false ∧ s.fault.cause = none := by
  have clear : s.fault.cause = none := by
    by_contra latched
    rcases h.faultOnlyMember (Option.isSome_iff_ne_none.2 latched) with state | state
    · exact joined state
    · exact evicted state
  have inactive : engineActive s.motion.state ≠ true := fun active => joined (h.activeOnlyJoined active)
  have running : s.motion.state ≠ .halted := fun halted => by simpa [clear] using h.haltedIffFault.1 halted
  have unplaced : s.motion.state = .unplaced := by
    cases state : s.motion.state <;> simp_all [engineActive]
  refine ⟨unplaced, ?_, ?_, clear⟩
  · by_contra known
    exact (h.containment.knownState (by simpa using known)).1 unplaced
  · by_contra high
    exact joined (h.pulseOnlyDriven (by simpa using high)).1

/-- An UNPLACED engine keeps its laws in every state but EVICTED (R97, R119). -/
theorem DriveLaw.of_unplaced (unplaced : s.motion.state = .unplaced) (unknown : s.motion.known = false)
    (low : s.motion.stepHigh = false) (clear : s.fault.cause = none) (setup : s.motion.setupTimer.running = false)
    (evicted : s.memb.state ≠ .evicted) (held : s.memb.state = .joined → s.resv.held ≠ .empty) : DriveLaw s where
  activeOnlyJoined := by simp [unplaced, engineActive]
  haltedIffFault := by simp [unplaced, clear]
  faultOnlyMember := by simp [clear]
  evictedCause state := absurd state evicted
  pulseOnlyDriven := by simp [low]
  setupOnlyStepping := by simp [setup]
  heldJoined := held
  containment :=
    { knownState := by simp [unknown]
      placed := by simp [unplaced]
      legal := by simp [unknown]
      inside := by simp [unknown]
      relocating := by simp [unplaced] }
  setUpFits := by simp [setup]
  setUpSteps := by simp [setup]

theorem DriveLaw.no_setup (h : DriveLaw s) (unplaced : s.motion.state = .unplaced) :
    s.motion.setupTimer.running = false := by
  by_contra running
  simpa [unplaced] using h.setupOnlyStepping (by simpa using running)

/-- The station passes from one of the states outside JOINED, EVICTED and DORMANT to another (R97). -/
theorem UnitsLaw.passTo (h : UnitsLaw s) {x : Membership}
    (before : s.memb.state ≠ .dormant ∧ s.memb.state ≠ .joined ∧ s.memb.state ≠ .evicted)
    (after : x.state ≠ .dormant ∧ x.state ≠ .joined ∧ x.state ≠ .evicted) (ties : TiesLaw (s.setMemb x))
    (join : ∀ r, x.join = some r → JoinLaw s.port.cfg.z r) : UnitsLaw (s.setMemb x) := by
  have ⟨awake, outside, kept⟩ := before
  have ⟨awake', outside', kept'⟩ := after
  have ⟨unplaced, unknown, low, clear⟩ := h.drive.outside outside kept
  exact
    { records :=
        { ties := ties
          waiting := h.records.waiting
          peers :=
            { h.records.peers with
              dormant := fun state => absurd state awake'
              directory := h.records.peers.directory
              joiner := h.records.peers.joiner }
          member :=
            { heldOnlyJoined := fun _ => h.records.member.heldOnlyJoined outside
              heldOk := h.records.member.heldOk
              heldDormant := fun holds => absurd (h.records.member.heldDormant holds) awake
              receiverOff := fun off => absurd off (by simp [awake', kept'])
              started := fun _ => h.records.member.started awake
              config := h.records.member.config
              join := join } }
      drive := .of_unplaced unplaced unknown low clear (h.drive.no_setup unplaced) kept' fun state => absurd state outside'
      need := ⟨h.need.asks, fun state => absurd state awake'⟩ }

/-- A joining station's own frame is not out: its record is not in WAITING. -/
def State.JoinIdle (s : State) : Prop := s.memb.state = .joining ∧ ∀ r, s.memb.join = some r → r.phase ≠ .waiting

theorem TiesLaw.of_joining (h : TiesLaw s) (joining : s.memb.state = .joining) : s.claimWaiting = false :=
  State.claimWaiting_of_not_inFlight (h.claimOnlyJoined (by simp [joining]))

theorem State.JoinIdle.ownWindow (idle : s.JoinIdle) (h : TiesLaw s) : s.access.ownWindow = false := by
  rw [h.outstanding, State.ownFrameOut, h.of_joining idle.1, Bool.false_or]
  split
  next r join => simpa using idle.2 r join
  next => rfl

/-- A joining station takes up a join record that does not wait; no JOIN stands in the queue for another than a QUEUED
one. -/
theorem UnitsLaw.takeUpJoin (h : UnitsLaw s) (idle : s.JoinIdle) {x : Membership} (state : x.state = s.memb.state)
    {r : JoinRecord} (record : x.join = some r) (phase : r.phase ≠ .waiting) (law : JoinLaw s.port.cfg.z r)
    (entry : s.access.queue.any QEntry.isJoin = true → r.phase = .queued) : UnitsLaw (s.setMemb x) := by
  refine h.setMemb state ?_ ?_
  · have joining : x.state = .joining := state.trans idle.1
    exact
      { queue := h.records.ties.queue
        claimOnlyJoined := fun _ => h.records.ties.claimOnlyJoined (by simp [idle.1])
        claimEntry := h.records.ties.claimEntry
        joinOnlyJoining := fun _ => joining
        outstanding := by
          have quiet := h.records.ties.of_joining idle.1
          have quiet' : (s.setMemb x).claimWaiting = false := quiet
          rw [State.ownFrameOut, quiet']
          simp [idle.ownWindow h.records.ties, record, phase]
        joinEntry := fun some => ⟨r, record, entry some⟩ }
  · rintro r' some
    obtain rfl := Option.some.inj (record.symm.trans some)
    exact law

theorem conservativeRange_ok {c : Config} {k : Nat} (rail : k < c.z) : (conservativeRange c k).ok c.z = true := by
  simp [conservativeRange]
  omega

theorem State.reading_lt {k : Nat} (h : s.reading = some k) : k < s.port.cfg.z := by
  unfold State.reading at h
  split at h
  · exact Option.some.inj h ▸ ‹_›
  · simp at h

theorem UnitsLaw.beginAttempt (h : UnitsLaw s) (idle : s.JoinIdle)
    (noEntry : s.access.queue.any QEntry.isJoin = false) (attempt : Nat) : UnitsLaw (s.beginAttempt attempt) := by
  unfold State.beginAttempt
  split
  next k read =>
    have law : JoinLaw s.port.cfg.z (joinRecord .queued attempt (conservativeRange s.port.cfg k)) :=
      ⟨conservativeRange_ok (State.reading_lt read), nofun, nofun, nofun⟩
    have taken : UnitsLaw (s.setMemb
        { s.memb with
          join := some (joinRecord .queued attempt (conservativeRange s.port.cfg k)), listenTimer := Timer.stopped }) :=
      h.takeUpJoin idle rfl rfl (by simp [joinRecord]) law fun _ => rfl
    exact taken.ofRecords (taken.records.offerAny (by simp [QEntry.isClaim, joinEntry]) fun _ => ⟨_, rfl, rfl⟩)
      (by simp) (by simp) (by simp) (by simp) (by simp)
  next => exact h.takeUpJoin idle rfl rfl (by simp [joinRecord]) ⟨rfl, fun _ => rfl, nofun, nofun⟩ (by simp [noEntry])

theorem UnitsLaw.joinFailed (h : UnitsLaw s) (idle : s.JoinIdle) (noEntry : s.access.queue.any QEntry.isJoin = false)
    (reason : EventReason) (station : Option Addr) : UnitsLaw (s.joinFailed reason station) := by
  refine UnitsLaw.queueEvent (h.passTo (by simp [idle.1]) (by simp) ?_ (by simp)) _
  exact
    { queue := h.records.ties.queue
      claimOnlyJoined := fun _ => h.records.ties.claimOnlyJoined (by simp [idle.1])
      claimEntry := h.records.ties.claimEntry
      joinOnlyJoining := by simp
      outstanding := by
        have quiet := h.records.ties.of_joining idle.1
        have quiet' : (s.setMemb
          { s.memb with state := .detached, join := none, listenTimer := Timer.stopped }).claimWaiting = false := quiet
        rw [State.ownFrameOut, quiet']
        simp [idle.ownWindow h.records.ties]
      joinEntry := fun some => by
        have some : s.access.queue.any QEntry.isJoin = true := some
        simp [noEntry] at some }

theorem UnitsLaw.joinRetry (h : UnitsLaw s) (idle : s.JoinIdle) (noEntry : s.access.queue.any QEntry.isJoin = false)
    (attempt : Nat) (reason : EventReason) (station : Option Addr) : UnitsLaw (s.joinRetry attempt reason station) := by
  unfold State.joinRetry
  split
  · exact h.beginAttempt idle noEntry _
  · exact h.joinFailed idle noEntry reason station

/-- The adopted range is a range of the rail (R104, R109). -/
theorem JoinLaw.adopted {z : Nat} {r : JoinRecord} (h : JoinLaw z r) (read : r.phase ≠ .reading) :
    r.adopted.ok z = true ∧ r.adopted ≠ .empty := by
  cases occ : r.occupied with
  | empty => exact absurd (h.read occ) read
  | run jlo jhi =>
    have ok := h.occupied
    rw [occ, ZRange.run_ok] at ok
    have low : r.lowBound.getD jlo ≤ jlo := by
      cases bound : r.lowBound with
      | none => simp
      | some b => exact h.low b jlo jhi bound occ
    have high : jhi ≤ r.highBound.getD jhi ∧ r.highBound.getD jhi < z := by
      cases bound : r.highBound with
      | none => exact ⟨Nat.le_refl _, ok.2⟩
      | some b => exact h.high b jlo jhi bound occ
    simp only [JoinRecord.adopted, occ, ZRange.run_ok]
    exact ⟨by omega, nofun⟩

/-- H takes a value in a station that is UNPLACED: its need is none (R73, R88). -/
theorem State.setHeld_of_unplaced (unplaced : s.motion.state = .unplaced) {q : ZRange} (changed : q ≠ s.resv.held) :
    s.setHeld q = (s.setResv { s.resv with held := q }).setMotion { s.motion with need := none } := by
  let s1 := s.setResv { s.resv with held := q }
  have told : s1.onHeldChange = s1.updateNeed := by
    rw [State.onHeldChange_eq]
    unfold State.resumeSteps
    simp [s1, unplaced]
  have none : s1.computeNeed = none := by simp [s1, State.computeNeed, unplaced]
  have fresh : s.setHeld q = s1.onHeldChange := if_neg changed
  rw [fresh, told, State.updateNeed, none, State.setNeed_none]
  rfl

/-- The station JOINED with its adopted range as H and no need, before its first PRESENCE is due (R109, R110). -/
def State.enterJoined (s : State) (q : ZRange) : State :=
  let s1 := (s.setResv { s.resv with held := q }).setMotion { s.motion with need := none }
  s1.setMemb { s1.memb with state := .joined, join := none, presenceTimer := Timer.start }

theorem TiesLaw.enterJoined (h : TiesLaw s) (idle : s.JoinIdle) (noEntry : s.access.queue.any QEntry.isJoin = false)
    (q : ZRange) : TiesLaw (s.enterJoined q) where
  queue := h.queue
  claimOnlyJoined other := absurd rfl other
  claimEntry := h.claimEntry
  joinOnlyJoining := by simp [State.enterJoined]
  outstanding := by
    simpa [State.enterJoined, State.ownFrameOut, State.claimWaiting, idle.ownWindow h] using h.of_joining idle.1
  joinEntry some := by
    have some : s.access.queue.any QEntry.isJoin = true := some
    simp [noEntry] at some

theorem PeersLaw.enterJoined (h : PeersLaw s) (free : s.dir.eviction = none) {q : ZRange}
    (apart : ∀ a, (s.extent a).overlaps q = false) : PeersLaw (s.enterJoined q) where
  entriesOk := h.entriesOk
  dormant := by simp [State.enterJoined]
  directory := apart
  absent := h.absent
  target := h.target
  returns := h.returns
  joiner v pends := by
    have pends : s.dir.eviction = some v := pends
    simp [free] at pends

/-- A joining station takes a range of the rail that no peer's extent meets as its H, where no eviction pends (R109). -/
theorem UnitsLaw.enterJoined (h : UnitsLaw s) (idle : s.JoinIdle) (noEntry : s.access.queue.any QEntry.isJoin = false)
    (free : s.dir.eviction = none) {q : ZRange} (ok : q.ok s.port.cfg.z = true) (nonempty : q ≠ .empty)
    (apart : ∀ a, (s.extent a).overlaps q = false) : UnitsLaw (s.enterJoined q) := by
  have ⟨unplaced, unknown, low, clear⟩ := h.drive.outside (by simp [idle.1]) (by simp [idle.1])
  have quiet := h.records.ties.of_joining idle.1
  exact
    { records :=
        { ties := h.records.ties.enterJoined idle noEntry q
          waiting := fun r claim waits => by
            have claim : s.resv.claim = some r := claim
            simp [State.claimWaiting, claim, waits] at quiet
          peers := h.records.peers.enterJoined free apart
          member :=
            { heldOnlyJoined := fun other => absurd rfl other
              heldOk := ok
              heldDormant := fun holds => by
                have dormant := h.records.member.heldDormant holds
                simp [idle.1] at dormant
              receiverOff := by simp [State.enterJoined]
              started := fun _ => h.records.member.started (by simp [idle.1])
              config := h.records.member.config
              join := by simp [State.enterJoined] } }
      drive := .of_unplaced unplaced unknown low clear (h.drive.no_setup unplaced) (by simp [State.enterJoined])
        fun _ => nonempty
      need := ⟨by simp [State.enterJoined, NeedOk], by simp [State.enterJoined]⟩ }

/-- A joining station adopts its range, where no eviction pends (R109). -/
theorem UnitsLaw.adopt (h : UnitsLaw s) (idle : s.JoinIdle) (noEntry : s.access.queue.any QEntry.isJoin = false)
    (free : s.dir.eviction = none) {r : JoinRecord} (law : JoinLaw s.port.cfg.z r) (read : r.phase ≠ .reading) :
    UnitsLaw (s.adopt r) := by
  have ⟨ok, nonempty⟩ := law.adopted read
  have ⟨unplaced, _⟩ := h.drive.outside (by simp [idle.1]) (by simp [idle.1])
  have empty : s.resv.held = .empty := h.records.member.heldOnlyJoined (by simp [idle.1])
  unfold State.adopt
  split
  · exact h.joinFailed idle noEntry _ _
  next vacant =>
    have apart (a : Addr) : (s.extent a).overlaps r.adopted = false := by
      have none : s.overlapping r.adopted = [] := List.head?_eq_none_iff.1 vacant
      have out : a ∉ s.overlapping r.adopted := by simp [none]
      simpa [State.overlapping, allAddrs] using out
    rw [State.setHeld_of_unplaced unplaced (by rwa [empty])]
    exact ((h.enterJoined idle noEntry free ok nonempty apart).makePresenceDue.queueEvent _).formClaim

/-- A join record that is not QUEUED has no JOIN in the queue (R102). -/
theorem TiesLaw.no_join_entry (h : TiesLaw s) {r : JoinRecord} (join : s.memb.join = some r) (settled : r.phase ≠ .queued) :
    s.access.queue.any QEntry.isJoin = false := by
  by_contra entry
  obtain ⟨r', join', queued⟩ := h.joinEntry (by simpa using entry)
  obtain rfl := Option.some.inj (join.symm.trans join')
  exact settled queued

/-- The join record concluded, and the own window outstanding no longer (R39, R108). -/
def State.endJoin (s : State) (r : JoinRecord) (inconclusive : Bool) : State :=
  let s1 := s.setMemb { s.memb with join := some { r with phase := .concluded, inconclusive := inconclusive } }
  s1.setAccess { s1.access with ownWindow := false }

theorem UnitsLaw.endJoin (h : UnitsLaw s) {r : JoinRecord} (join : s.memb.join = some r) (waits : r.phase = .waiting)
    (inconclusive : Bool) : UnitsLaw (s.endJoin r inconclusive) ∧ (s.endJoin r inconclusive).JoinIdle := by
  have joining := h.records.ties.joinOnlyJoining (by simp [join])
  have law := h.records.member.join r join
  have noEntry := h.records.ties.no_join_entry join (by simp [waits])
  have quiet : (s.endJoin r inconclusive).claimWaiting = false := h.records.ties.of_joining joining
  refine ⟨h.ofRecords
    { ties :=
        { queue := h.records.ties.queue
          claimOnlyJoined := h.records.ties.claimOnlyJoined
          claimEntry := h.records.ties.claimEntry
          joinOnlyJoining := fun _ => joining
          outstanding := by
            rw [State.ownFrameOut, quiet]
            simp [State.endJoin]
          joinEntry := fun some => by
            have some : s.access.queue.any QEntry.isJoin = true := some
            simp [noEntry] at some }
      waiting := h.records.waiting
      peers := h.records.peers.congr rfl (fun _ => ⟨rfl, rfl, rfl⟩) rfl rfl rfl
      member := { h.records.member with join := ?_ } } rfl rfl rfl rfl rfl, joining, ?_⟩
  · rintro _ ⟨⟩
    refine ⟨law.occupied, fun none => ?_, law.low, law.high⟩
    have reading := law.read none
    simp [waits] at reading
  · rintro _ ⟨⟩
    exact nofun

/-- A waiting join concludes; only a conclusive one can adopt a range, and then no eviction may pend (R108). -/
theorem UnitsLaw.concludeJoin (h : UnitsLaw s) {inconclusive : Bool}
    (free : inconclusive = true ∨ s.dir.eviction = none) : UnitsLaw (s.concludeJoin inconclusive) := by
  unfold State.concludeJoin
  split
  · exact h
  next r join =>
    split
    · exact h
    next waits =>
      have waits : r.phase = .waiting := not_not.1 waits
      have ⟨concluded, idle⟩ := h.endJoin join waits inconclusive
      have noEntry : (s.endJoin r inconclusive).access.queue.any QEntry.isJoin = false :=
        h.records.ties.no_join_entry join (by simp [waits])
      dsimp only
      split
      · exact concluded.joinRetry idle noEntry _ _ _
      next conclusive =>
        split
        · exact concluded.joinFailed idle noEntry _ _
        · split
          · exact concluded.joinRetry idle noEntry _ _ _
          · split
            · exact concluded.joinRetry idle noEntry _ _ _
            · exact concluded.adopt idle noEntry (free.resolve_left conclusive) (h.records.member.join r join)
                (by simp [waits])

end

end Sys2Proof.Machine

/-! PROOFS. The answers to joins and evictions, the close of a window, and the delivery of a frame keep the laws of all units
and the tie of an eviction to its window (R17, R25, R31, R36, R40 to R44, R50, R61, R105 to R116). -/

namespace Sys2Proof.Machine

section
variable {s t : State}

/-! ### Answers to joins, and evictions (R105, R106, R113 to R115) -/

/-- A JOINED neighbour owes a joiner a RECALL with a bound on the rail, if anything (R106). -/
theorem State.recallAnswer_recalls {x : Addr} {j : ZRange} {f : Frame} (answer : s.recallAnswer x j = some f) :
    ∃ side bound, f = .recall x side bound := by
  unfold State.recallAnswer at answer
  split at answer
  · simp at answer
  · dsimp only at answer
    split_ifs at answer
    · exact ⟨_, _, (Option.some.inj answer).symm⟩
    · exact ⟨_, _, (Option.some.inj answer).symm⟩

theorem UnitsLaw.answerJoin (h : UnitsLaw s) (x : Addr) (j : ZRange) (answered : Bool) :
    UnitsLaw (s.answerJoin x j answered) := by
  unfold State.answerJoin
  dsimp only
  split
  · exact h
  next member =>
    have joined : s.memb.state = .joined := not_not.1 member
    split
    · split
      · exact h.reportFault joined _
      · exact UnitsLaw.reportFault (h.offer rfl rfl) (by simpa using joined) _
    · split
      · exact h
      · split
        next f answer =>
          obtain ⟨side, bound, rfl⟩ := State.recallAnswer_recalls answer
          exact h.offer rfl rfl
        · exact h

theorem UnitsLaw.targeted (h : UnitsLaw s) (originator : Addr) (answered : Bool) :
    UnitsLaw (s.targeted originator answered) := by
  unfold State.targeted
  split
  · exact h
  · have named : UnitsLaw (s.setMemb { s.memb with target := some { originator := originator, sent := false } }) :=
      h.setMembRest rfl rfl
    dsimp only
    split
    · exact named
    · exact named.offer rfl rfl

theorem UnitsLaw.evictRefuse (h : UnitsLaw s) (sender answered : Addr) (tag : Tag) (reason : RefuseReason) :
    UnitsLaw (s.evictRefuse sender answered tag reason) := by
  unfold State.evictRefuse
  split
  · exact h
  · split
    · exact h.setMembRest rfl rfl
    · exact h

theorem UnitsLaw.evictInconclusive (h : UnitsLaw s) : UnitsLaw s.evictInconclusive := by
  unfold State.evictInconclusive
  split
  · exact h
  next r _ =>
    have ended : UnitsLaw (s.setMemb { s.memb with evict := none }) := h.setMembRest rfl rfl
    exact ended.queueEvent _

theorem UnitsLaw.concludeEvict (h : UnitsLaw s) (cause : CloseCause) : UnitsLaw (s.concludeEvict cause) := by
  unfold State.concludeEvict
  split
  · exact h
  · split
    · exact h
    · split
      · have ended : UnitsLaw (s.setMemb { s.memb with evict := none }) := h.setMembRest rfl rfl
        exact ended.queueEvent _
      · exact h.evictInconclusive

/-! ### The station's own eviction (R116) -/

/-- The station taken off the rail, before the report that latches EVICTED. -/
def State.offRail (s : State) : State :=
  let s1 := s.setMemb
    { s.memb with state := .evicted, listenTimer := Timer.stopped, presenceTimer := Timer.stopped, presenceDue := false,
                  join := none, evict := none, target := none }
  let s2 := s1.setResv { s1.resv with held := .empty, claim := none }
  let s3 := s2.setLine { s2.line with rx := .off, lineTimer := Timer.stopped, burst := none, txChars := [] }
  s3.setAccess
    { s3.access with phase := .unsynced, busTimer := Timer.stopped, slot := none, queue := [], inTx := none,
                     window := { s3.access.window with isOpen := false, unheard := [] }, ownWindow := false }

/-- What stands after the station is taken off the rail. -/
@[simp]
theorem State.offRail_reads (s : State) :
    s.offRail.port = s.port ∧ s.offRail.straps = s.straps ∧ s.offRail.dir = s.dir ∧ s.offRail.motion = s.motion ∧
    s.offRail.fault = s.fault ∧
    s.offRail.resv = { s.resv with held := .empty, claim := none } ∧
    s.offRail.memb =
      { s.memb with state := .evicted, listenTimer := Timer.stopped, presenceTimer := Timer.stopped, presenceDue := false,
                    join := none, evict := none, target := none } ∧
    s.offRail.access.queue = [] ∧ s.offRail.access.inTx = none ∧ s.offRail.access.ownWindow = false ∧
    s.offRail.line.rx = .off := by
  simp [State.offRail]

theorem State.becomeEvicted_eq (s : State) : s.becomeEvicted = s.offRail.reportFault .evicted := rfl

theorem RecordsLaw.offRail (h : RecordsLaw s) (awake : s.memb.state ≠ .dormant) : RecordsLaw s.offRail where
  ties :=
    { queue := by simpa [State.QueueLaw] using QueueLimits.nil
      claimOnlyJoined := by simp [State.claimInFlight]
      claimEntry := by simp
      joinOnlyJoining := by simp
      outstanding := by simp [State.ownFrameOut, State.claimWaiting]
      joinEntry := by simp }
  waiting := by simp [WaitingLaw]
  peers :=
    { entriesOk := by simpa [State.entry] using h.peers.entriesOk
      dormant := by simp
      directory := by simp [State.DirectoryLaw]
      absent := by simpa [State.entry, State.isPeer] using h.peers.absent
      target := by simpa [State.entry] using h.peers.target
      returns := by simpa [State.entry] using h.peers.returns
      joiner := by simp }
  member :=
    { heldOnlyJoined := by simp
      heldOk := by simp
      heldDormant holds := absurd (h.member.heldDormant (by simpa using holds)) awake
      receiverOff := by simp
      started := by simpa using h.member.started awake
      config := by simpa using h.member.config
      join := by simp }

theorem FaultUnit.take_evicted (f : FaultUnit) :
    ∃ g, f.take .evicted = some g ∧ g.cause = some .evicted ∧ g.phase = f.phase := by
  unfold FaultUnit.take
  cases f.cause <;> exact ⟨_, rfl, rfl, rfl⟩

theorem UnitsLaw.becomeEvicted (h : UnitsLaw s) (awake : s.memb.state ≠ .dormant) : UnitsLaw s.becomeEvicted := by
  rw [State.becomeEvicted_eq]
  have records := (h.records.offRail awake).reportFault .evicted
  obtain ⟨g, taken, evicted, -⟩ := s.fault.take_evicted
  have eq : s.offRail.reportFault .evicted = ((s.offRail.setFault g).queueEvent (.fault .evicted)).forceHalt .evicted := by
    simp [State.reportFault, taken, FaultReport.cause]
  rw [eq] at records ⊢
  obtain ⟨halted, low, setup, known, -⟩ :=
    ((s.offRail.setFault g).queueEvent (.fault .evicted)).forceHalt_halts .evicted
  exact
    { records := records
      drive := .of_halted halted low setup (by simp [evicted]) (.inr (by simp)) (fun _ => by simpa using evicted)
        (by simp) (by simp [known, FaultCause.losesPosition])
      need := NeedLaw.forceHalt
        ⟨fun n asked =>
            have ⟨order, rail, _⟩ := h.need.asks n (by simpa using asked)
            ⟨by simpa using order, by simpa using rail, by simp⟩, by simp⟩ _ }

theorem UnitsLaw.resolveTarget (h : UnitsLaw s) {cause : CloseCause} (awake : cause = .cut → s.memb.state ≠ .dormant) :
    UnitsLaw (s.resolveTarget cause) := by
  unfold State.resolveTarget
  split
  · exact h
  · have resolved : UnitsLaw (s.setMemb { s.memb with target := none }) := h.setMembRest rfl rfl
    dsimp only
    split
    · exact resolved
    · cases cause with
      | complete => exact resolved.makePresenceDue
      | cut => exact resolved.becomeEvicted (awake rfl)
      | superseded => exact resolved

/-! ### A station that is awake stays so (R97) -/

theorem State.awake_concludeJoin (awake : s.memb.state ≠ .dormant) (inconclusive : Bool) :
    (s.concludeJoin inconclusive).memb.state ≠ .dormant := by
  have failed {u : State} (reason : EventReason) (station : Option Addr) :
      (u.joinFailed reason station).memb.state ≠ .dormant := by simp [State.joinFailed]
  have retried {u : State} (hu : u.memb.state = s.memb.state) (n : Nat) (reason : EventReason) (station : Option Addr) :
      (u.joinRetry n reason station).memb.state ≠ .dormant := by
    unfold State.joinRetry
    split
    · simpa [hu] using awake
    · exact failed _ _
  unfold State.concludeJoin
  split
  · exact awake
  split
  · exact awake
  dsimp only
  split
  · exact retried (by simp) _ _ _
  split
  · exact failed _ _
  split
  · exact retried (by simp) _ _ _
  split
  · exact retried (by simp) _ _ _
  · unfold State.adopt
    split
    · exact failed _ _
    · simp

theorem State.awake_resolveTarget (awake : s.memb.state ≠ .dormant) (cause : CloseCause) :
    (s.resolveTarget cause).memb.state ≠ .dormant := by
  unfold State.resolveTarget
  split
  · exact awake
  · dsimp only
    split
    · exact awake
    · cases cause with
      | complete => simpa using awake
      | cut => simp [State.becomeEvicted_eq, State.offRail]
      | superseded => exact awake

/-! ### The close of a window (R41 to R44) -/

theorem State.eviction_dirResolve (s : State) (cause : CloseCause) : (s.dirResolve cause).dir.eviction = none := by
  unfold State.dirResolve
  split
  · assumption
  · dsimp only
    split
    · split <;> simp
    · simp

/-- What the close of a window leaves: the laws of the units, no eviction that pends, and a station that is awake if it
was. -/
structure Closed (s t : State) : Prop where
  units : UnitsLaw t
  eviction : t.dir.eviction = none
  awake : s.memb.state ≠ .dormant → t.memb.state ≠ .dormant

theorem UnitsLaw.reportClose (h : UnitsLaw s) {kind : WindowKind} (free : kind ≠ .evict → s.dir.eviction = none)
    {cause : CloseCause} (awake : cause = .cut → s.memb.state ≠ .dormant) (originator : Addr) :
    Closed s (s.reportClose originator kind cause) := by
  unfold State.reportClose
  cases kind with
  | claim =>
    have free := free nofun
    dsimp only
    split
    · exact ⟨h.concludeClaim (.inr free), by simpa using free, by simp⟩
    · exact ⟨h, free, id⟩
  | join =>
    have free := free nofun
    dsimp only
    split
    · exact ⟨h.concludeJoin (.inr free), by simpa using free, fun awake => State.awake_concludeJoin awake _⟩
    · exact ⟨h, free, id⟩
  | evict =>
    have resolved := h.dirResolve cause
    have gone := s.eviction_dirResolve cause
    dsimp only
    split
    · exact ⟨(resolved.concludeEvict cause).resolveTarget (by simpa using awake), by simpa using gone,
        fun awake => State.awake_resolveTarget (by simpa using awake) _⟩
    · exact ⟨resolved.resolveTarget (by simpa using awake), by simpa using gone,
        fun awake => State.awake_resolveTarget (by simpa using awake) _⟩

/-- The laws of the units with those of the answer window. -/
structure BusLaw (s : State) : Prop where
  units : UnitsLaw s
  window : WindowLaw s.access.window
  eviction : EvictionWindow s

theorem PartLaw.bus (h : PartLaw s) : BusLaw s := ⟨h.units, h.window, h.evictionWindow⟩

/-- An operation that leaves the window and the pending eviction alone. -/
theorem BusLaw.of_units (h : BusLaw s) (units : UnitsLaw t) (window : t.access.window = s.access.window)
    (eviction : t.dir.eviction = s.dir.eviction) : BusLaw t :=
  ⟨units, window ▸ h.window, by simpa [EvictionWindow, window, eviction] using h.eviction⟩

theorem BusLaw.of_closed (h : Closed s t) (window : WindowLaw t.access.window) : BusLaw t :=
  ⟨h.units, window, by simp [EvictionWindow, h.eviction]⟩

theorem BusLaw.closeWindow (h : BusLaw s) {cause : CloseCause} (awake : cause = .cut → s.memb.state ≠ .dormant) :
    Closed s (s.closeWindow cause) := by
  unfold State.closeWindow
  dsimp only
  split
  next o k isOpen _ kind =>
    have withdrawn := h.units.setAccess
      (x := { s.access with
        window := { s.access.window with isOpen := false, unheard := [], cause := some cause }
        queue := withdrawAnswers s.access.queue { originator := o, kind := k } }) List.filter_sublist rfl
    have closed := withdrawn.reportClose (kind := k) (cause := cause) (fun other => ?_) awake o
    · exact ⟨closed.units, closed.eviction, closed.awake⟩
    · by_contra pends
      obtain ⟨r, pends⟩ := Option.ne_none_iff_exists'.1 pends
      have evict := (h.eviction r pends).2
      exact other (Option.some.inj (kind.symm.trans evict))
  next unnamed =>
    refine ⟨h.units, ?_, id⟩
    by_contra pends
    obtain ⟨r, pends⟩ := Option.ne_none_iff_exists'.1 pends
    have isOpen := (h.eviction r pends).1
    obtain ⟨originator, kind⟩ := h.window.named isOpen
    obtain ⟨o, originator⟩ := Option.isSome_iff_exists.1 originator
    obtain ⟨k, kind⟩ := Option.isSome_iff_exists.1 kind
    exact unnamed o k isOpen originator kind

theorem UnitsLaw.openWindow (h : UnitsLaw s) (originator : Addr) (kind : WindowKind) :
    UnitsLaw (s.openWindow originator kind) := h.setAccess (List.Sublist.refl _) rfl

/-- A window-opening frame leaves no eviction pending (R40, R44). -/
theorem BusLaw.windowFrame (h : BusLaw s) (sender : Addr) (own : Bool) (kind : WindowKind) (tag : Tag) :
    Closed s (s.windowFrame sender own kind tag) ∧
      (s.windowFrame sender own kind tag).access.window.isOpen = true ∧
      (s.windowFrame sender own kind tag).access.window.kind = some kind := by
  unfold State.windowFrame
  split
  · have closed := h.closeWindow (cause := .superseded) nofun
    dsimp only
    split
    · exact ⟨⟨(closed.units.offer rfl rfl).openWindow _ _, by simpa using closed.eviction, by simpa using closed.awake⟩,
        rfl, rfl⟩
    · exact ⟨⟨closed.units.openWindow _ _, by simpa using closed.eviction, by simpa using closed.awake⟩, rfl, rfl⟩
  next shut =>
    refine ⟨⟨h.units.openWindow _ _, ?_, by simp⟩, rfl, rfl⟩
    by_contra pends
    obtain ⟨r, pends⟩ := Option.ne_none_iff_exists'.1 pends
    exact shut (h.eviction r (by simpa using pends)).1

/-- A sender leaves the unheard set, and the window closes with the last (R41). -/
theorem BusLaw.heard (h : BusLaw s) (a : Addr) : BusLaw (s.heard a) := by
  have window := s.heard_windowLaw a h.window
  unfold State.heard at *
  dsimp only at *
  split
  next listed =>
    rw [if_pos listed] at window
    have left : BusLaw (s.setAccess
        { s.access with window := { s.access.window with
            unheard := s.access.window.unheard.filter fun x => x != a } }) :=
      ⟨h.units.setAccess (List.Sublist.refl _) rfl, WindowLaw.filter _ _ h.window, h.eviction⟩
    split
    next last =>
      rw [if_pos last] at window
      exact .of_closed (left.closeWindow nofun) window
    · exact left
  · exact h

/-! ### Outcomes of transmissions, and what is offered again (R36, R74, R102, R111) -/

theorem UnitsLaw.clearTx (h : UnitsLaw s) : UnitsLaw (s.setAccess { s.access with inTx := none }) :=
  h.setAccess (List.Sublist.refl _) rfl

theorem UnitsLaw.txSent (h : UnitsLaw s) (f : Option Frame) : UnitsLaw (s.txSent f) := by
  have sent := h.clearTx
  unfold State.txSent
  dsimp only
  split
  · exact sent.presenceSent
  · split
    · exact sent.setMembRest rfl rfl
    · exact sent
  · split
    · exact sent.setMembRest rfl rfl
    · exact sent
  · exact sent

theorem UnitsLaw.txLost (h : UnitsLaw s) : UnitsLaw s.txLost := by
  have lost := h.clearTx
  unfold State.txLost
  dsimp only
  split
  · exact lost
  · split
    · exact lost.concludeClaim (.inl rfl)
    · exact lost.concludeJoin (.inl rfl)
    · exact lost.evictInconclusive
    · exact lost.offer rfl rfl
    all_goals exact lost

theorem UnitsLaw.offerAny (h : UnitsLaw s) {e : QEntry}
    (claim : e.isClaim = true → ∃ r, s.resv.claim = some r ∧ r.phase = .queued)
    (join : e.isJoin = true → ∃ r, s.memb.join = some r ∧ r.phase = .queued) : UnitsLaw (s.offer e) :=
  h.ofRecords (h.records.offerAny claim join) (by simp) (by simp) (by simp) (by simp) (by simp)

/-- What `State.reoffer` does for a QUEUED claim without an entry. -/
def State.reofferClaim (s : State) : State :=
  match s.resv.claim with
  | some r => if r.phase = .queued ∧ s.access.queue.any QEntry.isClaim = false then s.offer claimEntry else s
  | none => s

/-- What `State.reoffer` does for a QUEUED join without an entry. -/
def State.reofferJoin (s : State) : State :=
  match s.memb.join with
  | some r =>
    if r.phase = .queued ∧ s.access.queue.any QEntry.isJoin = false then s.offer (joinEntry r.attempt r.occupied) else s
  | none => s

/-- A PRESENCE is in transmission. -/
def State.sendsPresence (s : State) : Bool := match s.access.inTx with | some t => t.entry.isPresence | none => false

/-- What `State.reoffer` does for a PRESENCE that is due and not in transmission. -/
def State.reofferPresence (s : State) : State :=
  if s.memb.presenceDue && !s.sendsPresence then s.offer presenceEntry else s

theorem State.reoffer_eq (s : State) : s.reoffer = s.reofferClaim.reofferJoin.reofferPresence := by
  unfold State.reoffer State.reofferPresence State.reofferJoin State.reofferClaim
  rfl

theorem UnitsLaw.reoffer (h : UnitsLaw s) : UnitsLaw s.reoffer := by
  have claimed : UnitsLaw s.reofferClaim := by
    unfold State.reofferClaim
    split
    next r claim =>
      split
      next waits => exact h.offerAny (fun _ => ⟨r, claim, waits.1⟩) (by simp [QEntry.isJoin, claimEntry])
      · exact h
    · exact h
  have joining : UnitsLaw s.reofferClaim.reofferJoin := by
    unfold State.reofferJoin
    split
    next r join =>
      split
      next waits => exact claimed.offerAny (by simp [QEntry.isClaim, joinEntry]) fun _ => ⟨r, join, waits.1⟩
      · exact claimed
    · exact claimed
  rw [State.reoffer_eq]
  unfold State.reofferPresence
  split
  · exact joining.offer rfl rfl
  · exact joining

/-! ### The delivery of a valid frame (R31, R36, R40, R41, R50) -/

theorem UnitsLaw.takeDelivery (h : UnitsLaw s) (dormant : s.memb.state ≠ .dormant) (evicted : s.memb.state ≠ .evicted)
    (base : Addr) : UnitsLaw (s.takeDelivery base) := by
  have counts : UnitsLaw (s.setAccess
      { s.access with
        phase := .settle, busTimer := { running := true, value := s.line.lineTimer.value }, base := some base
        slot := none }) := h.setAccess (List.Sublist.refl _) rfl
  exact counts.setLine dormant evicted _

theorem UnitsLaw.unitTake (h : UnitsLaw s) (sender : Addr) (own answered : Bool) {f : Option Frame}
    (ok : ∀ g, f = some g → g.RangesOk s.port.cfg.z) : UnitsLaw (s.unitTake sender own answered f) := by
  unfold State.unitTake
  split
  · split
    · exact h
    · exact h.answerClaim _ _ _ _ _ _
  next =>
    have ⟨nonempty, gok⟩ := ok _ rfl
    exact h.claimGrant _ _ _ nonempty gok
  · exact ((h.claimRefuse _ _ _ _).joinRefuse _ _ _ _).evictRefuse _ _ _ _
  · split
    · exact h
    · exact h.answerJoin _ _ _
  next => exact h.joinRecall _ _ _ (ok _ rfl)
  · split
    · exact h.targeted _ _
    · exact h
  all_goals exact h

/-- The window part of a delivery: a frame that opens a window leaves no eviction pending and the window open with its
kind; another leaves the part as it was. -/
theorem BusLaw.windowTake (h : BusLaw s) (sender : Addr) (own : Bool) (f : Option Frame) :
    BusLaw (s.windowTake sender own f) ∧
    (s.memb.state ≠ .dormant → (s.windowTake sender own f).memb.state ≠ .dormant) ∧
    (∀ y, f = some (.evict y) → (s.windowTake sender own f).dir.eviction = none ∧
      (s.windowTake sender own f).access.window.isOpen = true ∧
      (s.windowTake sender own f).access.window.kind = some .evict) := by
  have window := s.windowTake_windowLaw sender own f h.window
  unfold State.windowTake at *
  split
  · exact ⟨h, id, nofun⟩
  next fr =>
    dsimp only at window
    split
    next opens => exact ⟨h, id, by rintro y ⟨⟩; simp [opensWindow] at opens⟩
    next kind tag opens =>
      rw [opens] at window
      have ⟨closed, isOpen, named⟩ := h.windowFrame sender own kind tag
      refine ⟨.of_closed closed window, closed.awake, ?_⟩
      rintro y ⟨⟩
      have evict : kind = .evict := by
        simp only [opensWindow, Option.some.injEq, Prod.mk.injEq] at opens
        exact opens.1.symm
      exact ⟨closed.eviction, isOpen, evict ▸ named⟩

/-- A frame that is no EVICT makes no eviction pend (R58). -/
theorem State.eviction_setEntry {x : Addr} {st : PeerState} {e : PeerEntry}
    (free : s.dir.eviction = none) : (s.setEntry x st e).dir.eviction = none := by
  obtain ⟨-, eq⟩ | ⟨r, -, pends, -⟩ := s.setEntry_spec x st e
  · rw [eq]
    exact free
  · simp [free] at pends

theorem State.eviction_dirTake {sender : Addr} {f : Option Frame} (other : ∀ y, f ≠ some (.evict y))
    (free : s.dir.eviction = none) : (s.dirTake sender f).dir.eviction = none := by
  have touched : (s.touch sender).dir.eviction = none := by simpa using free
  unfold State.dirTake
  dsimp only
  split
  · split
    · unfold State.dirPresence
      dsimp only
      split
      · split <;> simpa using State.eviction_setEntry touched
      · split <;> simpa using State.eviction_setEntry touched
    · exact touched
  · split
    · unfold State.dirGrant
      dsimp only
      split <;> simpa using State.eviction_setEntry touched
    · exact touched
  · unfold State.dirRefuse
    split
    next => exact touched
    next r pends => exact absurd (touched.symm.trans pends) nofun
  · split
    · simpa using touched
    · exact touched
  · split
    · unfold State.dirJoin
      split
      · exact touched
      · simpa using State.eviction_setEntry touched
    · exact touched
  next y => exact absurd rfl (other y)
  all_goals exact touched

theorem BusLaw.dirTake (h : BusLaw s) (awake : s.memb.state ≠ .dormant) (sender : Addr) {f : Option Frame}
    (ok : ∀ g, f = some g → g.RangesOk s.port.cfg.z)
    (evicts : ∀ y, f = some (.evict y) → s.dir.eviction = none ∧ s.access.window.isOpen = true ∧
      s.access.window.kind = some .evict) : BusLaw (s.dirTake sender f) where
  units := h.units.dirTake awake sender ok fun y hf => (evicts y hf).1
  window := by simpa using h.window
  eviction r pends := by
    simp only [State.dirTake_keeps]
    by_cases evict : ∃ y, f = some (.evict y)
    · obtain ⟨y, hf⟩ := evict
      exact (evicts y hf).2
    · cases free : s.dir.eviction with
      | none =>
        have none := State.eviction_dirTake (sender := sender) (not_exists.1 evict) free
        simp [none] at pends
      | some r0 => exact h.eviction r0 free

/-- The part when the access unit has taken a delivery and the queue is offered again, before the directory acts. -/
def State.received (s : State) (sender : Addr) : State := (s.takeDelivery sender).reoffer

/-- The part when the owner of an own frame has acted on its outcome (R36). -/
def State.acknowledged (s : State) (sender : Addr) (own : Bool) (f : Option Frame) : State :=
  if own then (s.received sender).txSent f else s.received sender

theorem BusLaw.acknowledged (h : BusLaw s) (dormant : s.memb.state ≠ .dormant) (evicted : s.memb.state ≠ .evicted)
    (sender : Addr) (own : Bool) (f : Option Frame) :
    BusLaw (s.acknowledged sender own f) ∧ (s.acknowledged sender own f).memb.state = s.memb.state ∧
      (s.acknowledged sender own f).port.cfg = s.port.cfg := by
  have offered : BusLaw (s.received sender) :=
    h.of_units (h.units.takeDelivery dormant evicted sender).reoffer (by simp [State.received]) (by simp [State.received])
  unfold State.acknowledged
  split
  · exact ⟨offered.of_units (offered.units.txSent f) (by simp) (by simp), by simp [State.received], by simp [State.received]⟩
  · exact ⟨offered, by simp [State.received], by simp [State.received]⟩

/-- A valid frame whose ranges lie on the rail is delivered to a station that is neither DORMANT nor EVICTED. -/
theorem BusLaw.deliverValid (h : BusLaw s) (dormant : s.memb.state ≠ .dormant) (evicted : s.memb.state ≠ .evicted)
    (sender : Addr) (own : Bool) {f : Option Frame} (ok : ∀ g, f = some g → g.RangesOk s.port.cfg.z) :
    BusLaw (s.deliverValid sender own f) := by
  obtain ⟨taken, state, cfg⟩ := h.acknowledged dormant evicted sender own f
  obtain ⟨windowed, awake, evicts⟩ := taken.windowTake sender own f
  have ok' : ∀ g, f = some g → g.RangesOk ((s.acknowledged sender own f).windowTake sender own f).port.cfg.z := by
    simpa [cfg] using ok
  have heard := windowed.dirTake (awake (state ▸ dormant)) sender ok' evicts
  have answered := heard.of_units
    (heard.units.unitTake sender own ((s.acknowledged sender own f).marksAnswered own f) (by simpa using ok')) (by simp)
    (by simp)
  exact answered.heard sender

theorem BusLaw.deliverCorrupted (h : BusLaw s) (dormant : s.memb.state ≠ .dormant) (evicted : s.memb.state ≠ .evicted) :
    BusLaw s.deliverCorrupted := by
  have window := s.deliverCorrupted_windowLaw h.window
  have counted : UnitsLaw (s.setLine s.line.countCorrupted) := h.units.setLine dormant evicted _
  have offered : BusLaw ((s.setLine s.line.countCorrupted).takeDelivery (Fin.ofNat 16 (s.port.cfg.n - 1))).reoffer :=
    h.of_units (counted.takeDelivery dormant evicted _).reoffer (by simp) (by simp)
  unfold State.deliverCorrupted at *
  dsimp only at *
  split
  next own =>
    rw [if_pos own] at window
    refine .of_closed (BusLaw.closeWindow (offered.of_units offered.units.txLost (by simp) (by simp)) fun _ => ?_) window
    unfold State.txLost
    dsimp only
    split
    · simpa using dormant
    · split
      · simpa using dormant
      · exact State.awake_concludeJoin (by simpa using dormant) _
      · unfold State.evictInconclusive
        split <;> simpa using dormant
      all_goals simpa using dormant
  next other =>
    rw [if_neg other] at window
    exact .of_closed (offered.closeWindow fun _ => by simpa using dormant) window

end

end Sys2Proof.Machine

/-! PROOFS. Time, the characters of a burst and its judgement keep the laws, and what is delivered names ranges of the rail
(R15 to R25, R49, R181). -/

namespace Sys2Proof

/-! ### A parsed frame names ranges of the rail (R22, R181) -/

theorem rangeOfBytes_ok {z : Nat} {lo hi : Byte} {r : ZRange} (h : rangeOfBytes z lo hi = some r) : r.ok z = true := by
  unfold rangeOfBytes at h
  split_ifs at h with empty rail
  · obtain rfl := Option.some.inj h
    rfl
  · obtain rfl := Option.some.inj h
    simpa [ZRange.ok] using rail

theorem Frame.rangesOk_of_parse {n z code : Nat} {sender : Addr} {body : List Byte} {f : Frame}
    (h : parseFrame n z sender code body = some f) : f.RangesOk z := by
  unfold parseFrame at h
  split at h
  · -- PRESENCE
    split at h
    next held occupied _ =>
      obtain rfl := Option.some.inj h
      exact ⟨rangeOfBytes_ok held, rangeOfBytes_ok occupied⟩
    · simp at h
  · -- CLAIM
    split at h
    next range =>
      dsimp only at h
      split_ifs at h <;> (obtain rfl := Option.some.inj h; exact rangeOfBytes_ok range)
    · simp at h
  · -- GRANT
    split at h
    next range =>
      simp only [Option.ite_none_right_eq_some] at h
      obtain rfl := Option.some.inj h.2
      exact ⟨nofun, rangeOfBytes_ok range⟩
    · simp at h
  · -- REFUSE
    split at h
    · simp only [Option.ite_none_right_eq_some] at h
      obtain rfl := Option.some.inj h.2
      trivial
    · simp at h
  · -- RELEASE
    split at h
    next range =>
      obtain rfl := Option.some.inj h
      exact rangeOfBytes_ok range
    · simp at h
  · -- JOIN
    split at h
    next range =>
      simp only [Option.ite_none_right_eq_some] at h
      obtain rfl := Option.some.inj h.2
      exact rangeOfBytes_ok range
    · simp at h
  · -- RECALL
    simp only [Option.ite_none_right_eq_some] at h
    obtain ⟨⟨_, rail, _⟩, h⟩ := h
    obtain rfl := Option.some.inj h
    exact rail
  · -- EVICT
    simp only [Option.ite_none_right_eq_some] at h
    obtain rfl := Option.some.inj h.2
    trivial
  · simp at h

end Sys2Proof

namespace Sys2Proof.Machine

section
variable {s t : State}

theorem State.rangesOk_of_judgement {sender : Addr} {own : Bool} {content : Option Frame}
    (judged : s.judgement = some (.valid sender own content)) :
    ∀ g, content = some g → g.RangesOk s.port.cfg.z := by
  unfold State.judgement at judged
  split at judged
  · have judged := Option.some.inj judged
    unfold judgeBurst at judged
    dsimp only at judged
    split at judged
    · simp at judged
    · split_ifs at judged
      obtain ⟨-, -, rfl⟩ := Judgement.valid.inj judged
      exact fun g parsed => Frame.rangesOk_of_parse parsed
  · simp at judged

/-! ### The law of the part from the laws of the units -/

theorem LatchLaw.congr {f g : FaultUnit} (h : LatchLaw f) (cause : g.cause = f.cause) (further : g.further = f.further)
    (intruders : g.intruders = f.intruders) : LatchLaw g :=
  ⟨intruders ▸ h.distinct, by simpa [cause, further, intruders] using h.cleared⟩

theorem PartLaw.of_bus (h : BusLaw t) (event : t.EventLaw) (latch : LatchLaw t.fault) : PartLaw t :=
  .of_units event latch h.window h.eviction h.units

/-- An operation that leaves the window and the pending eviction alone. -/
theorem PartLaw.ofUnits (h : PartLaw s) (units : UnitsLaw t) (event : t.EventLaw) (latch : LatchLaw t.fault)
    (window : t.access.window = s.access.window) (eviction : t.dir.eviction = s.dir.eviction) : PartLaw t :=
  .of_bus (h.bus.of_units units window eviction) event latch

/-- Two states have the same events, reports of faults, window and pending eviction. -/
def SameReports (s t : State) : Prop :=
  t.port.events = s.port.events ∧ t.fault.cause = s.fault.cause ∧ t.fault.further = s.fault.further ∧
  t.fault.intruders = s.fault.intruders ∧ t.access.window = s.access.window ∧ t.dir.eviction = s.dir.eviction

/-- An operation that reports nothing. -/
theorem PartLaw.silent (h : PartLaw s) (units : UnitsLaw t) (same : SameReports s t) : PartLaw t := by
  obtain ⟨events, cause, further, intruders, window, eviction⟩ := same
  exact h.ofUnits units (by simpa [State.EventLaw, events] using h.event) (h.latch.congr cause further intruders) window
    eviction

/-! ### Time (R49, R59) -/

@[simp] theorem Timer.running_advance (x : Timer) (d : Nat) : (x.advance d).running = x.running := by
  unfold Timer.advance
  split <;> simp_all

theorem State.entry_advance_reads (d : Nat) (a : Addr) :
    ((s.advance d).entry a).state = (s.entry a).state ∧ ((s.advance d).entry a).held = (s.entry a).held ∧
      ((s.advance d).entry a).occupied = (s.entry a).occupied := by
  rw [State.entry_advance]
  split <;> exact ⟨rfl, rfl, rfl⟩

theorem UnitsLaw.advance (h : UnitsLaw s) (d : Nat) : UnitsLaw (s.advance d) where
  records :=
    { ties := h.records.ties.congr (by simp) (by simp) (by simp) (by simp) (by simp)
      waiting := by simpa [WaitingLaw] using h.records.waiting
      peers := h.records.peers.congr (by simp) (State.entry_advance_reads d) (by simp) (by simp) (by simp)
      member := h.records.member.congr (by simp) (by simp) (by simp) (by simp) (by simp) (by simp) (by simp) }
  drive := h.drive.congr (by simp [SameDrive, State.advance])
  need := h.need.congr (by simp [SameNeed])

theorem PartLaw.advance (h : PartLaw s) (d : Nat) : PartLaw (s.advance d) :=
  h.silent (h.units.advance d) (by simp [SameReports])

theorem PartLaw.withZone (h : PartLaw s) (zone : Byte) : PartLaw (s.withZone zone) :=
  h.silent (h.units.withZone zone) (by simp [SameReports])

/-! ### The queue of the access unit -/

theorem PartLaw.kick (h : PartLaw s) : PartLaw s.kick :=
  h.ofUnits h.units.kick (s.kick_eventLimits h.event) (by simpa using h.latch) (by simp) (by simp)

theorem PartLaw.handover (h : PartLaw s) : PartLaw s.handover :=
  h.ofUnits h.units.handover (s.handover_eventLimits h.event) (by simpa using h.latch) (by simp) (by simp)

/-- The counts of the access unit change, not its queue and its windows. -/
theorem PartLaw.setAccess (h : PartLaw s) {x : AccessUnit} (queue : x.queue = s.access.queue)
    (own : x.ownWindow = s.access.ownWindow) (window : x.window = s.access.window) : PartLaw (s.setAccess x) :=
  h.silent (h.units.setAccess (queue ▸ List.Sublist.refl _) own) (by simp [SameReports, window])

/-! ### The receiver (R15 to R20, R24) -/

/-- The station is on the rail: its receiver may be on (R16). -/
def State.OnRail (s : State) : Prop := s.memb.state ≠ .dormant ∧ s.memb.state ≠ .evicted

theorem PartLaw.onRail (h : PartLaw s) (on : s.line.rx ≠ .off) : s.OnRail := h.units.records.member.awake on

theorem PartLaw.setLine (h : PartLaw s) (rail : s.OnRail) (x : LineUnit) : PartLaw (s.setLine x) :=
  h.silent (h.units.setLine rail.1 rail.2 x) (by simp [SameReports])

theorem PartLaw.startBurst (h : PartLaw s) (rail : s.OnRail) : PartLaw s.startBurst := by
  have started := h.setLine rail
    { s.line with rx := .char, lineTimer := Timer.start, crc := 0xFFFF#16,
                  burst := some { chars := [], count := 0, bad := false, own := false, mismatch := false } }
  unfold State.startBurst
  dsimp only
  split
  all_goals exact started.setAccess rfl rfl rfl

theorem PartLaw.startChar (h : PartLaw s) (rail : s.OnRail) : PartLaw s.startChar := by
  unfold State.startChar
  split
  · exact h.setLine rail _
  · exact h

theorem PartLaw.completeChar (h : PartLaw s) (rail : s.OnRail) (data : Byte) (parity stop : Bool) :
    PartLaw (s.completeChar data parity stop) := by
  unfold State.completeChar
  split
  · exact h
  · exact h.setLine rail _

theorem PartLaw.receiveChar (h : PartLaw s) (rail : s.OnRail) (data : Byte) (parity stop : Bool) :
    PartLaw (s.receiveChar data parity stop) :=
  ((h.startChar rail).advance _).completeChar (by simpa [State.OnRail] using rail) data parity stop

theorem PartLaw.receiveChars (h : PartLaw s) (rail : s.OnRail) (chars : List Byte) : PartLaw (s.receiveChars chars) := by
  unfold State.receiveChars
  induction chars generalizing s with
  | nil => exact h
  | cons c chars ih => exact ih (h.receiveChar rail c _ _) (by simpa [State.OnRail] using rail)

theorem PartLaw.spoilChar (h : PartLaw s) (rail : s.OnRail) : PartLaw s.spoilChar := by
  have received := (h.startChar rail).advance (s.startChar.line.lineTimer.remaining s.startChar.c)
  unfold State.spoilChar
  dsimp only
  split
  · exact received
  · exact received.setLine (by simpa [State.OnRail] using rail) _

theorem PartLaw.endGap (h : PartLaw s) : PartLaw s.endGap := h.advance _

/-! ### The end of a burst (R17) -/

/-- A burst ends only at a receiver that is on, and leaves the station on the rail. -/
theorem PartLaw.burstEnd (h : PartLaw s) {chars : List Byte} (ends : s.burstEnd chars = some t) :
    PartLaw t ∧ t.OnRail := by
  have received {u : State} (hu : PartLaw u) (rail : u.OnRail) (rest : List Byte) :
      PartLaw (u.receiveChars rest).endGap ∧ (u.receiveChars rest).endGap.OnRail :=
    ⟨(hu.receiveChars rail rest).endGap, by simpa [State.OnRail] using rail⟩
  unfold State.burstEnd at ends
  split at ends
  next rx =>
    have rail := h.onRail (by simp [rx])
    obtain rfl := Option.some.inj ends
    exact received (h.startBurst rail) (by simpa [State.OnRail] using rail) _
  next rx _ =>
    obtain rfl := Option.some.inj ends
    exact received h (h.onRail (by simp [rx])) _
  next rx _ =>
    obtain rfl := Option.some.inj ends
    exact received h (h.onRail (by simp [rx])) _
  · simp at ends

theorem PartLaw.burstEndBad (h : PartLaw s) (ends : s.burstEndBad = some t) : PartLaw t ∧ t.OnRail := by
  have spoiled {u : State} (hu : PartLaw u) (rail : u.OnRail) :
      PartLaw u.spoilChar.endGap ∧ u.spoilChar.endGap.OnRail :=
    ⟨(hu.spoilChar rail).endGap, by simpa [State.OnRail] using rail⟩
  unfold State.burstEndBad at ends
  split at ends
  next rx =>
    have rail := h.onRail (by simp [rx])
    obtain rfl := Option.some.inj ends
    exact spoiled (h.startBurst rail) (by simpa [State.OnRail] using rail)
  next rx _ =>
    obtain rfl := Option.some.inj ends
    exact spoiled h (h.onRail (by simp [rx]))
  next rx _ =>
    have rail := h.onRail (by simp [rx])
    obtain rfl := Option.some.inj ends
    split
    · exact spoiled h rail
    · exact ⟨h.endGap, by simpa [State.OnRail] using rail⟩
  · simp at ends

/-! ### Deliveries (R25, R42) -/

theorem PartLaw.deliverValid (h : PartLaw s) (rail : s.OnRail) {sender : Addr} {own : Bool} {content : Option Frame}
    (judged : s.judgement = some (.valid sender own content)) : PartLaw (s.deliverValid sender own content) :=
  .of_bus (h.bus.deliverValid rail.1 rail.2 sender own (State.rangesOk_of_judgement judged))
    (s.deliverValid_eventLimits sender own content h.event) (s.deliverValid_latchLaw sender own content h.latch)

theorem PartLaw.deliverCorrupted (h : PartLaw s) (rail : s.OnRail) : PartLaw s.deliverCorrupted :=
  .of_bus (h.bus.deliverCorrupted rail.1 rail.2) (s.deliverCorrupted_eventLimits h.event)
    (s.deliverCorrupted_latchLaw h.latch)

theorem PartLaw.onFrame (h : PartLaw s) (sender : Addr) (f : Frame) (zone : Byte) : PartLaw (s.onFrame sender f zone) := by
  unfold State.onFrame
  split
  · exact h
  next ends =>
    obtain ⟨ended, rail⟩ := (h.withZone zone).burstEnd ends
    split
    next judged =>
      split
      next same =>
        obtain ⟨rfl, -⟩ := same
        exact ended.deliverValid rail judged
      · exact h
    · exact h
    · exact h

end

end Sys2Proof.Machine

/-! PROOFS. The events on the bus line, the ends of bursts, the slots and the timers of the directory, the reservation unit and
the membership unit keep the law of the part (R15 to R25, R30 to R32, R59, R75, R99, R102, R111). -/

namespace Sys2Proof.Machine

/-- The command completes, and leaves a part that keeps its laws. -/
def Lawful (r : Result) : Prop := ∃ t, r = .next t ∧ PartLaw t

section
variable {s t : State}

theorem PartLaw.lawful (h : PartLaw t) : Lawful (.next t) := ⟨t, rfl, h⟩

/-! ### Events within a burst (R15 to R18, R24) -/

theorem PartLaw.execActivity (h : PartLaw s) : Lawful (execActivity s) := by
  refine PartLaw.lawful ?_
  split
  next rx => exact h.startBurst (h.onRail (by simp [rx]))
  next rx => exact h.startChar (h.onRail (by simp [rx]))
  next rx => exact h.setLine (h.onRail (by simp [rx])) _
  all_goals exact h

theorem PartLaw.execLineIdle (h : PartLaw s) : Lawful (execLineIdle s) := by
  refine PartLaw.lawful ?_
  split
  next rx =>
    have rail : s.OnRail := h.onRail (by simp [rx])
    have waits := (h.advance (s.line.lineTimer.remaining s.c)).setLine (by simpa [State.OnRail] using rail)
      { (s.advance (s.line.lineTimer.remaining s.c)).line with rx := .await, lineTimer := Timer.stopped }
    dsimp only
    split
    · exact waits.setAccess rfl rfl rfl
    · exact waits
  · exact h

theorem PartLaw.execLineBreak (h : PartLaw s) : Lawful (execLineBreak s) := by
  refine PartLaw.lawful ?_
  split
  next rx _ =>
    have rail : s.OnRail := h.onRail (by simp [rx])
    exact (h.advance _).setLine (by simpa [State.OnRail] using rail) _
  · exact h

theorem PartLaw.execCharacterReceived (h : PartLaw s) (data : Byte) (parity stop : Bool) :
    Lawful (execCharacterReceived data parity stop s) := by
  refine PartLaw.lawful ?_
  split
  next rx => exact h.receiveChar (h.onRail (by simp [rx])) data parity stop
  next rx => exact h.receiveChar (h.onRail (by simp [rx])) data parity stop
  all_goals exact h

theorem PartLaw.execLineReturnsRecessive (h : PartLaw s) : Lawful (execLineReturnsRecessive s) := by
  refine PartLaw.lawful ?_
  split
  next rx => exact h.setLine (h.onRail (by simp [rx])) _
  next rx => exact h.setLine (h.onRail (by simp [rx])) _
  all_goals exact h

/-- The receiver changes but for its state, which may then be OFF (R16). -/
theorem UnitsLaw.setLineRest (h : UnitsLaw s) {x : LineUnit} (rx : x.rx = s.line.rx) : UnitsLaw (s.setLine x) :=
  h.congr (by simp [SameRecords, rx]) (by simp [SameDrive]) (by simp [SameNeed])

theorem PartLaw.setLineRest (h : PartLaw s) {x : LineUnit} (rx : x.rx = s.line.rx) : PartLaw (s.setLine x) :=
  h.silent (h.units.setLineRest rx) (by simp [SameReports])

theorem PartLaw.execReadbackMismatch (h : PartLaw s) : Lawful (execReadbackMismatch s) := by
  refine PartLaw.lawful ?_
  split
  · split
    · exact h.setLineRest rfl
    · exact h
  · exact h

/-! ### The ends of bursts (R21, R22, R25) -/

theorem PartLaw.execUndefinedFrame (h : PartLaw s) (chars : List Byte) (zone : Byte) :
    Lawful (execUndefinedFrame chars zone s) := by
  refine PartLaw.lawful ?_
  split
  · exact h
  next ends =>
    obtain ⟨ended, rail⟩ := (h.withZone zone).burstEnd ends
    split
    next judged => exact ended.deliverValid rail judged
    all_goals exact h

theorem PartLaw.execCorruptedFrame (h : PartLaw s) (zone : Byte) : Lawful (execCorruptedFrame zone s) := by
  refine PartLaw.lawful ?_
  split
  · exact h
  next ends =>
    obtain ⟨ended, rail⟩ := (h.withZone zone).burstEndBad ends
    split
    · exact ended.deliverCorrupted rail
    all_goals exact h

/-! ### Slots (R30 to R32, R41) -/

theorem PartLaw.heard (h : PartLaw s) (a : Addr) : PartLaw (s.heard a) :=
  .of_bus (h.bus.heard a) (s.heard_eventLimits a h.event) (s.heard_latchLaw a h.latch)

theorem PartLaw.offerSlot (h : PartLaw s) (base : Addr) (k : Nat) : PartLaw (s.offerSlot base k) := by
  unfold State.offerSlot
  split
  · exact h.handover
  · exact h

theorem PartLaw.execSettleEnd (h : PartLaw s) : Lawful (execSettleEnd s) := by
  refine PartLaw.lawful ?_
  split
  · refine PartLaw.offerSlot ?_ _ 0
    exact (h.advance _).setAccess rfl rfl rfl
  · exact h

theorem PartLaw.execSlotBoundary (h : PartLaw s) (zone : Byte) : Lawful (execSlotBoundary zone s) := by
  refine PartLaw.lawful ?_
  split
  next base k _ _ _ =>
    have passed : PartLaw
        (((s.withZone zone).advance
          ((s.withZone zone).access.busTimer.remaining ((2 + (k + 1)) * (s.withZone zone).c))).slotPasses base k) :=
      ((h.withZone zone).advance _).heard _
    dsimp only
    split
    · refine PartLaw.offerSlot ?_ _ _
      exact passed.setAccess rfl rfl rfl
    · exact PartLaw.kick (passed.setAccess rfl rfl rfl)
  · exact h

theorem PartLaw.execUnsyncedIdleExpiry (h : PartLaw s) : Lawful (execUnsyncedIdleExpiry s) := by
  refine PartLaw.lawful ?_
  split
  · exact PartLaw.kick ((h.advance _).setAccess rfl rfl rfl)
  · exact h

/-! ### The timers of the directory and of the reservation unit (R59, R75) -/

theorem State.standing_advance (d : Nat) (a : Addr) : (s.advance d).standing a = s.standing a := by
  have ⟨state, _⟩ := State.entry_advance_reads (s := s) d a
  simp [State.standing, state]

theorem State.eviction_silence (free : s.dir.eviction = none) (a : Addr) : (s.silence a).dir.eviction = none := by
  simpa [State.silence] using State.eviction_setEntry free

theorem PartLaw.goesSilent (h : PartLaw s) (awake : s.memb.state ≠ .dormant) {a : Addr}
    (ages : s.standing a = .joining ∨ s.standing a = .present) : PartLaw (s.silence a) :=
  .of_bus
    { units := h.units.silence awake ages
      window := by simpa using h.window
      eviction := fun r pends => by
        cases before : s.dir.eviction with
        | none =>
          have gone := State.eviction_silence before a
          simp [gone] at pends
        | some r0 => simpa using h.evictionWindow r0 before }
    (s.silence_eventLimits a h.event) (by simpa using h.latch)

theorem PartLaw.execAgeExpiry (h : PartLaw s) (peer : Addr) : Lawful (execAgeExpiry peer s) := by
  refine PartLaw.lawful ?_
  split
  next runs =>
    simp only [Bool.and_eq_true] at runs
    obtain ⟨⟨active, -⟩, ages⟩ := runs
    have awake : s.memb.state ≠ .dormant := by
      rintro dormant
      simp [State.dirActive, dormant] at active
    have stands : s.standing peer = .joining ∨ s.standing peer = .present := by
      cases standing : s.standing peer <;> simp [standing, PeerState.ages] at ages ⊢
    exact ((h.advance _).goesSilent (by simpa using awake) (by simpa [State.standing_advance] using stands)).kick
  · exact h

theorem PartLaw.execRearmTimerExpiry (h : PartLaw s) : Lawful (execRearmTimerExpiry s) := by
  refine PartLaw.lawful ?_
  split
  · have passed := h.advance (s.resv.rearm.timer.remaining s.presenceInterval)
    exact (passed.silent passed.units.arm (by simp [SameReports])).kick
  · exact h

/-! ### The timers of the membership unit (R99, R102, R111) -/

theorem TiesLaw.no_join (h : TiesLaw s) (outside : s.memb.state ≠ .joining) :
    s.memb.join = none ∧ s.access.queue.any QEntry.isJoin = false := by
  have record : s.memb.join = none := by
    by_contra some
    exact outside (h.joinOnlyJoining (Option.isSome_iff_ne_none.2 some))
  refine ⟨record, ?_⟩
  by_contra entry
  obtain ⟨r, some, -⟩ := h.joinEntry (by simpa using entry)
  simp [record] at some

/-- The station in JOINING, with its listen timer as given. -/
def State.toJoining (s : State) (listen : Timer) : State :=
  s.setMemb { s.memb with state := .joining, listenTimer := listen }

/-- A station enters JOINING from LISTENING or DETACHED, and its first attempt begins (R99, R100). -/
theorem UnitsLaw.beginJoining (h : UnitsLaw s) (before : s.memb.state = .listening ∨ s.memb.state = .detached)
    (listen : Timer) (attempt : Nat) : UnitsLaw ((s.toJoining listen).beginAttempt attempt) := by
  have outside : s.memb.state ≠ .joining ∧ s.memb.state ≠ .joined := by rcases before with b | b <;> simp [b]
  have ⟨noRecord, noEntry⟩ := h.records.ties.no_join outside.1
  have entered : UnitsLaw (s.toJoining listen) := by
    refine h.passTo (by rcases before with b | b <;> simp [b]) (by simp) ?_ (by simp [noRecord])
    exact
      { queue := h.records.ties.queue
        claimOnlyJoined := fun _ => h.records.ties.claimOnlyJoined outside.2
        claimEntry := h.records.ties.claimEntry
        joinOnlyJoining := fun _ => rfl
        outstanding := by simpa [State.ownFrameOut, State.claimWaiting] using h.records.ties.outstanding
        joinEntry := h.records.ties.joinEntry }
  exact entered.beginAttempt ⟨rfl, by simp [State.toJoining, noRecord]⟩ noEntry attempt

theorem PartLaw.beginJoining (h : PartLaw s) (before : s.memb.state = .listening ∨ s.memb.state = .detached)
    (listen : Timer) (attempt : Nat) : PartLaw ((s.toJoining listen).beginAttempt attempt) :=
  h.silent (h.units.beginJoining before listen attempt) (by simp [SameReports, State.toJoining])

theorem PartLaw.execListenTimerExpiry (h : PartLaw s) (zone : Byte) : Lawful (execListenTimerExpiry zone s) := by
  refine PartLaw.lawful ?_
  split
  next runs =>
    have passed := (h.withZone zone).advance
      ((s.withZone zone).memb.listenTimer.remaining (2 * (s.withZone zone).presenceInterval))
    exact (passed.beginJoining (.inl (by simpa using runs.1)) Timer.stopped 1).kick
  · exact h

theorem PartLaw.execJoinReadingRetry (h : PartLaw s) (zone : Byte) : Lawful (execJoinReadingRetry zone s) := by
  refine PartLaw.lawful ?_
  split
  next r join =>
    split
    next runs =>
      have passed := (h.withZone zone).advance ((s.withZone zone).memb.listenTimer.remaining (s.withZone zone).presenceInterval)
      have ties := h.units.records.ties
      have joining : s.memb.state = .joining := ties.joinOnlyJoining (by simp [join])
      have noEntry := ties.no_join_entry join (by simp [runs.1])
      have idle : ((s.withZone zone).advance
          ((s.withZone zone).memb.listenTimer.remaining (s.withZone zone).presenceInterval)).JoinIdle := by
        refine ⟨by simpa using joining, fun r' join' => ?_⟩
        obtain rfl : r = r' := by simpa [join] using join'
        simp [runs.1]
      exact (passed.silent (passed.units.beginAttempt idle (by simpa using noEntry) r.attempt) (by simp [SameReports])).kick
    · exact h
  · exact h

theorem PartLaw.execPresenceTimerExpiry (h : PartLaw s) : Lawful (execPresenceTimerExpiry s) := by
  refine PartLaw.lawful ?_
  split
  · have passed := h.advance (s.memb.presenceTimer.remaining s.presenceInterval)
    have stopped := passed.units.setMembRest
      (x := { (s.advance (s.memb.presenceTimer.remaining s.presenceInterval)).memb with
        presenceTimer :=
          { running := false
            value := (s.advance (s.memb.presenceTimer.remaining s.presenceInterval)).presenceInterval } }) rfl rfl
    exact (passed.silent stopped.makePresenceDue (by simp [SameReports])).kick
  · exact h

end

end Sys2Proof.Machine

/-! PROOFS. The controller's requests keep the law of the part (R131 to R133, R135, R144 to R159, R163, R171). -/

namespace Sys2Proof.Machine

/-! ### The values of a configuration (R149, R150) -/

theorem configGet_configPut (c : Config) {index : Nat} (known : index < 10) (value j : Nat) :
    configGet (configPut c index value) j = if j = index then some value else configGet c j := by
  unfold configGet configPut
  interval_cases index <;> split <;> simp_all

theorem index_lt_of_configRange {index : Nat} {range : Nat × Nat} (h : configRange index = some range) : index < 10 := by
  by_contra large
  unfold configRange at h
  split at h <;> simp_all

theorem ConfigLaw.put {c : Config} (h : ConfigLaw c) {index lo hi value : Nat} (range : configRange index = some (lo, hi))
    (within : lo ≤ value ∧ value ≤ hi) : ConfigLaw (configPut c index value) := by
  have known := index_lt_of_configRange range
  intro j lo' hi' v range' got
  rw [configGet_configPut c known] at got
  split at got
  next same =>
    subst same
    obtain rfl := Option.some.inj got
    obtain ⟨rfl, rfl⟩ : lo = lo' ∧ hi = hi' := by simpa [range] using range'
    exact within
  · exact h j lo' hi' v range' got

section
variable {s t : State}

/-! ### The port (R144 to R148) -/

/-- The port changes, but not the configuration. -/
theorem UnitsLaw.setPort (h : UnitsLaw s) {x : Port} (cfg : x.cfg = s.port.cfg) : UnitsLaw (s.setPort x) :=
  h.congr (by simp [SameRecords, cfg]) (by simp [SameDrive, cfg]) (by simp [SameNeed, cfg])

theorem PartLaw.setPort (h : PartLaw s) {x : Port} (cfg : x.cfg = s.port.cfg) (events : x.events = s.port.events) :
    PartLaw (s.setPort x) :=
  h.silent (h.units.setPort cfg) (by simp [SameReports, events])

theorem PartLaw.shiftOut (h : PartLaw s) (clocks : Nat) : PartLaw (s.shiftOut clocks) := h.setPort rfl rfl

theorem PartLaw.respond (h : PartLaw s) (seq : Byte) (status : Status) (data : Data) :
    PartLaw (s.respond seq status data) := h.setPort rfl rfl

/-- What a request does keeps the law of a part that no reset holds. -/
def LawfulAct (act : State → State × Status) : Prop := ∀ s, PartLaw s → s.fault.phase = .running → PartLaw (act s).1

theorem PartLaw.takeRequest (h : PartLaw s) {act : State → State × Status} (lawful : LawfulAct act) (kind : Byte)
    (r : Request) (data : State → State → Status → Data) : PartLaw (s.takeRequest kind r act data) := by
  unfold State.takeRequest
  split
  · exact h
  next out =>
    dsimp only
    split
    · refine PartLaw.respond (lawful _ (h.shiftOut 64) ?_) _ _ _
      simpa [State.shiftOut, State.inReset] using out
    · exact (h.shiftOut 64).respond _ _ _

/-- A request with no effect beyond its answer. -/
theorem lawfulAct_of_no_effect {act : State → State × Status} (same : ∀ s, (act s).1 = s) : LawfulAct act :=
  fun s h _ => (same s).symm ▸ h

/-! ### CONFIGURE (R149, R150) -/

/-- A DORMANT station has no range, no claim, no join and no need that the configuration could bound (R97, R98). -/
theorem UnitsLaw.configure (h : UnitsLaw s) (dormant : s.memb.state = .dormant) {c : Config} (law : ConfigLaw c) :
    UnitsLaw (s.setPort { s.port with cfg := c }) := by
  have ⟨noEviction, entries⟩ := h.records.peers.dormant dormant
  have ⟨noJoin, _⟩ := h.records.ties.no_join (by simp [dormant])
  have held := h.records.member.heldOnlyJoined (by simp [dormant])
  have ⟨unplaced, unknown, low, clear⟩ := h.drive.outside (by simp [dormant]) (by simp [dormant])
  have noClaim := h.records.ties.claimOnlyJoined (by simp [dormant])
  exact
    { records :=
        { ties := h.records.ties.congr rfl rfl rfl rfl rfl
          waiting := fun r claim waits => by
            have claim : s.resv.claim = some r := claim
            simp [State.claimInFlight, claim, waits] at noClaim
          peers :=
            { entriesOk := fun a => by
                obtain ⟨noHeld, noOccupied⟩ := entries a
                have same : (s.setPort { s.port with cfg := c }).entry a = s.entry a := rfl
                simp [same, noHeld, noOccupied]
              dormant := h.records.peers.dormant
              directory := h.records.peers.directory
              absent := h.records.peers.absent
              target := h.records.peers.target
              returns := h.records.peers.returns
              joiner := h.records.peers.joiner }
          member :=
            { heldOnlyJoined := h.records.member.heldOnlyJoined
              heldOk := by simp [held]
              heldDormant := h.records.member.heldDormant
              receiverOff := h.records.member.receiverOff
              started := fun awake => absurd dormant awake
              config := law
              join := by simp [noJoin] } }
      drive := .of_unplaced unplaced unknown low clear (h.drive.no_setup unplaced) (by simp [dormant]) (by simp [dormant])
      need := ⟨by simp [NeedOk, h.need.dormant dormant], h.need.dormant⟩ }

theorem lawfulAct_configure (index value : Nat) : LawfulAct (configureAct index value) := by
  intro s h _
  unfold configureAct
  split
  · exact h
  next dormant =>
    split
    · exact h
    next range =>
      split
      next within =>
        exact h.silent (h.units.configure (not_not.1 dormant) (h.units.records.member.config.put range within))
          (by simp [SameReports])
      · exact h

/-! ### START (R99, R100, R151) -/

theorem State.entry_leaveDormant (a : Addr) :
    s.leaveDormant.entry a = if s.isPeer a = true then { s.entry a with age := 0 } else s.entry a :=
  getElem_mapEntries _ _ a

theorem UnitsLaw.leaveDormant (h : UnitsLaw s) (dormant : s.memb.state = .dormant) (running : s.fault.phase = .running)
    (fits : s.straps.address.val < s.port.cfg.n ∧ s.port.cfg.w ≤ s.port.cfg.z - 2) : UnitsLaw s.leaveDormant := by
  have ⟨noEviction, entries⟩ := h.records.peers.dormant dormant
  have ⟨noJoin, noEntry⟩ := h.records.ties.no_join (by simp [dormant])
  have held := h.records.member.heldOnlyJoined (by simp [dormant])
  have ⟨unplaced, unknown, low, clear⟩ := h.drive.outside (by simp [dormant]) (by simp [dormant])
  have ⟨_, _, _, rail, _⟩ := h.records.member.config.bounds
  have wide : s.port.cfg.w + 2 ≤ s.port.cfg.z := by omega
  have entry (a : Addr) : (s.leaveDormant.entry a).held = .empty ∧ (s.leaveDormant.entry a).occupied = .empty ∧
      (s.leaveDormant.entry a).state = (s.entry a).state := by
    rw [State.entry_leaveDormant]
    obtain ⟨noHeld, noOccupied⟩ := entries a
    split <;> exact ⟨noHeld, noOccupied, rfl⟩
  exact
    { records :=
        { ties :=
            { queue := h.records.ties.queue
              claimOnlyJoined := fun _ => h.records.ties.claimOnlyJoined (by simp [dormant])
              claimEntry := h.records.ties.claimEntry
              joinOnlyJoining := by simp [State.leaveDormant, noJoin]
              outstanding := h.records.ties.outstanding
              joinEntry := h.records.ties.joinEntry }
          waiting := h.records.waiting
          peers :=
            { entriesOk := fun a => by
                obtain ⟨noHeld, noOccupied, -⟩ := entry a
                simp [noHeld, noOccupied]
              dormant := nofun
              directory := fun a => by
                simp [State.leaveDormant, held]
              absent := fun free a => by
                rw [(entry a).2.2]
                exact h.records.peers.absent noEviction a
              target := by simp [State.leaveDormant, noEviction]
              returns := by simp [State.leaveDormant, noEviction]
              joiner := by simp [State.leaveDormant, noEviction] }
          member :=
            { heldOnlyJoined := fun _ => held
              heldOk := h.records.member.heldOk
              heldDormant := fun holds => absurd running holds
              receiverOff := nofun
              started := fun _ => ⟨fits.1, wide⟩
              config := h.records.member.config
              join := h.records.member.join } }
      drive := .of_unplaced unplaced unknown low clear (h.drive.no_setup unplaced) nofun nofun
      need := ⟨h.need.asks, nofun⟩ }

theorem lawfulAct_start : LawfulAct startAct := by
  intro s h running
  unfold startAct
  split
  next dormant =>
    split
    · exact h
    next fits =>
      have fits : s.straps.address.val < s.port.cfg.n ∧ s.port.cfg.w ≤ s.port.cfg.z - 2 := by omega
      exact h.silent (h.units.leaveDormant dormant running fits) (by simp [SameReports, State.leaveDormant])
  next detached => exact (h.beginJoining (.inr detached) s.memb.listenTimer 1).kick
  all_goals exact h

/-! ### MOVE and STOP (R131 to R133) -/

theorem PartLaw.endMove (h : PartLaw s)
    (placed : s.motion.state = .idle ∨ s.motion.state = .moving ∨ s.motion.state = .stalled) (reason : EndReason) :
    PartLaw ((s.setMotion { s.motion with state := .idle }).endMove reason) :=
  h.ofUnits (h.units.endMove_idle placed reason) (State.endMove_eventLimits _ reason h.event) (by simpa using h.latch)
    (by simp) (by simp)

theorem PartLaw.updateNeed (h : PartLaw s) (units : UnitsLaw t.updateNeed) (same : SameReports s t) : PartLaw t.updateNeed :=
  h.silent units (by simpa [SameReports] using same)

theorem PartLaw.retarget (h : PartLaw s) (moves : s.motion.state = .moving ∨ s.motion.state = .stalled) (target : Nat) :
    PartLaw (s.retarget target).1 := by
  unfold State.retarget
  by_cases arrived : target = s.motion.p
  · rw [if_pos arrived]
    exact (h.endMove (.inr moves) .arrived).kick
  by_cases onward : s.motion.direction = some (if s.motion.p < target then Side.up else Side.down)
  · rw [if_neg arrived, if_pos onward]
    have drive : DriveLaw (s.setMotion { s.motion with target := some target }) :=
      h.units.drive.congr (by simp [SameDrive])
    refine (h.updateNeed (UnitsLaw.updateNeed (h.units.records.setMotion _) drive (.of_not_relocating ?_)) ?_).kick
    · rcases moves with state | state <;> simp [state]
    · simp [SameReports]
  · rw [if_neg arrived, if_neg onward]
    exact h

/-- A station at rest starts a move (R131). -/
theorem DriveLaw.startMove (h : DriveLaw s) (idle : s.motion.state = .idle) {m : Motion} (moving : m.state = .moving)
    (kept : m.p = s.motion.p ∧ m.known = s.motion.known ∧ m.stepHigh = s.motion.stepHigh ∧
      m.setupTimer = s.motion.setupTimer) : DriveLaw (s.setMotion m) := by
  have ⟨known, joined, clear⟩ := h.of_placed (.inl idle)
  obtain ⟨p, knows, high, timer⟩ := kept
  have still : s.motion.setupTimer.running = false := by
    by_contra runs
    simpa [idle] using h.setupOnlyStepping (by simpa using runs)
  exact
    { activeOnlyJoined := fun _ => joined
      haltedIffFault := by simp [moving, clear]
      faultOnlyMember := h.faultOnlyMember
      evictedCause := h.evictedCause
      pulseOnlyDriven := by simp [joined, clear]
      setupOnlyStepping := fun _ => .inl moving
      heldJoined := h.heldJoined
      containment :=
        { knownState := by simp [moving]
          placed := fun _ => knows.trans known
          legal := by simpa [p, knows] using h.containment.legal
          inside := by simpa [State.occupied, p, knows] using h.containment.inside
          relocating := by simp [moving] }
      setUpFits := by simp [timer, still]
      setUpSteps := by simp [timer, still] }

theorem PartLaw.beginMove (h : PartLaw s) (idle : s.motion.state = .idle) (target : Nat) :
    PartLaw (s.beginMove target) := by
  unfold State.beginMove
  split
  · have same : s.setMotion { s.motion with state := .idle } = s := by rw [← idle]; rfl
    exact same ▸ h.endMove (.inl idle) .arrived
  · refine h.updateNeed (.updateNeed (h.units.records.setMotion _) (h.units.drive.startMove idle rfl ⟨rfl, rfl, rfl, rfl⟩)
      (.of_not_relocating (by simp))) (by simp [SameReports])

theorem lawfulAct_move (target : Nat) : LawfulAct (moveAct target) := by
  intro s h _
  unfold moveAct
  split
  · exact h
  split
  · exact h
  split
  · exact h
  · exact h
  · exact h
  next moving => exact h.retarget (.inl moving) target
  next stalled => exact h.retarget (.inr stalled) target
  next idle => exact (h.beginMove idle target).kick

theorem PartLaw.endRelocate (h : PartLaw s) (relocating : s.motion.state = .relocating) (reason : EndReason) :
    PartLaw (s.endRelocate reason .unplaced) := by
  have ⟨joined, clear, unknown⟩ := h.units.drive.of_relocating relocating
  exact h.ofUnits
    (.endRelocate h.units.records h.units.need (.of_leaveRelocate joined clear unknown (h.units.drive.heldJoined joined))
      reason)
    (s.endRelocate_eventLimits reason .unplaced h.event) (by simpa using h.latch) (by simp) (by simp)

theorem lawfulAct_stop : LawfulAct stopAct := by
  intro s h _
  unfold stopAct
  split
  next moving => exact (h.endMove (.inr (.inl moving)) .stopped).kick
  next stalled => exact (h.endMove (.inr (.inr stalled)) .stopped).kick
  next relocating => exact (h.endRelocate relocating .stopped).kick
  all_goals exact h

/-! ### RELOCATE (R135, R136) -/

theorem PartLaw.beginRelocate (h : PartLaw s) (joined : s.memb.state = .joined) (unplaced : s.motion.state = .unplaced)
    {k : Nat} (rail : k < s.port.cfg.z) : PartLaw (s.beginRelocate k) := by
  have clear : s.fault.cause = none := by simpa using mt h.units.drive.haltedIffFault.2 (by simp [unplaced])
  have unknown : s.motion.known = false := by
    by_contra known
    exact (h.units.drive.containment.knownState (by simpa using known)).1 unplaced
  let r : RelocRecord := { k := k, side := .down, phase := .claiming, downTried := false, steps := 0 }
  have relocates : State.Relocates (s.setMotion { s.motion with state := .relocating, reloc := some r }) :=
    ⟨rfl, joined, clear, unknown, h.units.drive.no_setup unplaced⟩
  exact h.ofUnits
    (.chooseDirection (r := r) (h.units.records.setMotion _) (h.units.need.congr (by simp [SameNeed])) relocates
      (h.units.drive.heldJoined joined) rail)
    (State.chooseDirection_eventLimits _ _ h.event) (by simpa [State.beginRelocate] using h.latch)
    (by simp [State.beginRelocate]) (by simp [State.beginRelocate])

theorem lawfulAct_relocate : LawfulAct relocateAct := by
  intro s h _
  unfold relocateAct
  split
  · exact h
  next joined =>
    split
    all_goals try exact h
    next unplaced =>
      split
      · exact h
      next read => exact (h.beginRelocate (not_not.1 joined) unplaced (State.reading_lt read)).kick

/-! ### EVICT (R113) -/

theorem PartLaw.orderEviction (h : PartLaw s) (target : Addr) : PartLaw (s.orderEviction target) := by
  have ordered : UnitsLaw (s.setMemb
      { s.memb with evict := some { target := target, waiting := false, aliveHeard := false } }) :=
    h.units.setMembRest rfl rfl
  unfold State.orderEviction
  dsimp only
  split
  · exact h.ofUnits ordered.evictInconclusive (State.evictInconclusive_eventLimits _ h.event) (by simpa using h.latch)
      (by simp) (by simp)
  · exact h.silent (ordered.offer rfl rfl) (by simp [SameReports])

theorem lawfulAct_evict (address : Nat) : LawfulAct (evictAct address) := by
  intro s h _
  unfold evictAct
  split_ifs
  all_goals try exact h
  exact (h.orderEviction _).kick

/-! ### CLEAR_FAULT (R143, R171) -/

/-- A HALTED engine whose cause is cleared is at rest, where its place is known, or UNPLACED (R143). -/
theorem DriveLaw.unhalt (h : DriveLaw s) (halted : s.motion.state = .halted) (joined : s.memb.state = .joined)
    (clear : t.fault.cause = none) (kept : t.memb = s.memb ∧ t.resv = s.resv ∧ t.port.cfg = s.port.cfg)
    (engine : t.motion.p = s.motion.p ∧ t.motion.known = s.motion.known ∧ t.motion.setupTimer = s.motion.setupTimer)
    (state : t.motion.state = if s.motion.known then .idle else .unplaced) : DriveLaw t := by
  obtain ⟨memb, resv, cfg⟩ := kept
  obtain ⟨p, known, timer⟩ := engine
  have still : s.motion.setupTimer.running = false := by
    by_contra runs
    simpa [halted] using h.setupOnlyStepping (by simpa using runs)
  have rests : t.motion.state ≠ .halted ∧ t.motion.state ≠ .moving ∧ t.motion.state ≠ .stalled ∧
      t.motion.state ≠ .relocating := by
    rw [state]
    split <;> simp
  obtain ⟨unhalted, unmoved, unstalled, unrelocating⟩ := rests
  exact
    { activeOnlyJoined := fun _ => memb ▸ joined
      haltedIffFault := by simp [unhalted, clear]
      faultOnlyMember := by simp [clear]
      evictedCause := by simp [memb, joined]
      pulseOnlyDriven := by simp [memb, joined, clear]
      setupOnlyStepping := by simp [timer, still]
      heldJoined := by simpa [memb, resv] using h.heldJoined
      containment :=
        { knownState := fun knows => ⟨by simp [state, ← known, knows], unrelocating⟩
          placed := fun placed => by
            rw [known]
            by_contra unknown
            simp [state, unknown] at placed
          legal := by simpa [p, known, cfg] using h.containment.legal
          inside := by simpa [State.occupied, p, known, cfg, resv] using h.containment.inside
          relocating := fun relocates => absurd relocates unrelocating }
      setUpFits := by simp [timer, still]
      setUpSteps := by simp [timer, still] }

@[simp] theorem State.releaseHalt_leaves (s : State) :
    s.releaseHalt.port = s.port ∧ s.releaseHalt.fault = s.fault ∧ s.releaseHalt.dir = s.dir ∧
      s.releaseHalt.access.window = s.access.window := by
  unfold State.releaseHalt
  split
  · split <;> simp
  · simp

/-- CLEAR_FAULT of a cause other than EVICTED releases the engine (R143, R171). -/
theorem UnitsLaw.releaseHalt (h : UnitsLaw s) (halted : s.motion.state = .halted) (joined : s.memb.state = .joined)
    {f : FaultUnit} (clear : f.cause = none) (phase : f.phase = s.fault.phase) : UnitsLaw (s.setFault f).releaseHalt := by
  have cleared : RecordsLaw (s.setFault f) := h.records.setFault phase
  unfold State.releaseHalt
  rw [if_pos (by simpa using halted)]
  split
  next known =>
    have known : s.motion.known = true := known
    have idle : DriveLaw ((s.setFault f).setMotion { (s.setFault f).motion with state := .idle, mismatch := 0 }) :=
      h.drive.unhalt halted joined clear ⟨rfl, rfl, rfl⟩ ⟨rfl, rfl, rfl⟩ (by simp [known])
    have steady : ((s.setFault f).setMotion { (s.setFault f).motion with state := .idle, mismatch := 0 }).Steady := by
      refine ⟨by simp, by simp, ?_⟩
      by_contra runs
      simpa [halted] using h.drive.setupOnlyStepping (by simpa using runs)
    have records := cleared.setMotion { (s.setFault f).motion with state := .idle, mismatch := 0 }
    exact .updateNeed records.trim (idle.trim records steady known) (.of_not_relocating (by rw [steady.trim.2]; simp))
  next unknown =>
    have unknown : s.motion.known = false := by simpa using unknown
    refine .updateNeed (cleared.setMotion _)
      (h.drive.unhalt halted joined clear ⟨rfl, rfl, rfl⟩ ⟨rfl, rfl, rfl⟩ (by simp [unknown])) (.of_not_relocating (by simp))

theorem lawfulAct_clearFault : LawfulAct clearFaultAct := by
  intro s h _
  have cleared {cause : FaultCause} (latched : s.fault.cause = some cause) (other : cause ≠ .evicted) :
      PartLaw (s.setFault { s.fault with cause := none, further := false, intruders := [] }).releaseHalt.kick := by
    have halted : s.motion.state = .halted := h.units.drive.haltedIffFault.2 (by simp [latched])
    have joined : s.memb.state = .joined := by
      refine (h.units.drive.faultOnlyMember (by simp [latched])).resolve_right fun evicted => ?_
      exact other (Option.some.inj (latched.symm.trans (h.units.drive.evictedCause evicted)))
    refine PartLaw.kick (h.ofUnits (h.units.releaseHalt halted joined rfl rfl) ?_ ?_ ?_ ?_)
    · simpa [State.EventLaw] using h.event
    · simpa using LatchLaw.mk List.nodup_nil fun _ => ⟨rfl, rfl⟩
    · simp
    · simp
  unfold clearFaultAct
  split
  · exact h
  · exact h
  next latched => exact cleared latched nofun
  next latched => exact cleared latched nofun
  next latched => exact cleared latched nofun

/-! ### READ_STATUS, READ_PEER and TAKE_EVENT (R158, R159, R163) -/

theorem lawfulAct_readStatus (part : Nat) : LawfulAct (readStatusAct part) := by
  intro s h _
  unfold readStatusAct
  split
  · exact h.setLineRest rfl
  all_goals exact h

theorem lawfulAct_readPeer (address part : Nat) : LawfulAct (readPeerAct address part) :=
  lawfulAct_of_no_effect fun s => by
    unfold readPeerAct
    split_ifs <;> rfl

theorem lawfulAct_takeEvent : LawfulAct takeEventAct := fun _ h _ =>
  h.ofUnits (h.units.setPort rfl) (tail_limits _ h.event) h.latch rfl rfl

/-! ### A kind that names no request, and a transaction that is not full (R145, R147) -/

theorem PartLaw.execUnknownRequest (h : PartLaw s) (kind : Byte) (r : Request) : Lawful (execUnknownRequest kind r s) := by
  refine PartLaw.lawful ?_
  split
  · exact h
  · exact h.takeRequest (lawfulAct_of_no_effect fun _ => rfl) kind r _

theorem PartLaw.execCutTransaction (h : PartLaw s) (clocks : Nat) : Lawful (execCutTransaction clocks s) := by
  refine PartLaw.lawful ?_
  split
  · exact h
  · exact h.shiftOut clocks

end

end Sys2Proof.Machine

/-! PROOFS. The resets keep the law of the part (R148, R162, R174 to R177). -/

namespace Sys2Proof.Machine

theorem ConfigLaw.default : ConfigLaw Config.default := by
  intro j lo hi v range got
  have known := index_lt_of_configRange range
  interval_cases j <;>
  · obtain ⟨rfl, rfl⟩ := Prod.mk.inj (Option.some.inj range)
    obtain rfl := Option.some.inj got
    decide

section
variable {s t : State}

/-- Every block of the part that holds a record is in its reset state (R28, R46, R49, R67, R98, R117, R165). -/
structure BlocksReset (t : State) : Prop where
  line : t.line = lineReset
  access : t.access = accessReset
  dir : t.dir = dirReset
  resv : t.resv = resvReset
  memb : t.memb = membReset
  motion : t.motion = motionReset
  clear : t.fault.cause = none ∧ t.fault.further = false ∧ t.fault.intruders = []

theorem entry_dirReset (h : t.dir = dirReset) (a : Addr) : t.entry a = entryReset := by
  simp [State.entry, h, dirReset]

theorem BlocksReset.records (h : BlocksReset t) (cfg : ConfigLaw t.port.cfg) : RecordsLaw t where
  ties :=
    { queue := by simpa [State.QueueLaw, h.access, accessReset] using QueueLimits.nil
      claimOnlyJoined := by simp [State.claimInFlight, h.resv, resvReset]
      claimEntry := by simp [h.access, accessReset]
      joinOnlyJoining := by simp [h.memb, membReset]
      outstanding := by
        simp [State.ownFrameOut, State.claimWaiting, h.access, h.resv, h.memb, accessReset, resvReset, membReset]
      joinEntry := by simp [h.access, accessReset] }
  waiting := by simp [WaitingLaw, h.resv, resvReset]
  peers :=
    { entriesOk := by simp [entry_dirReset h.dir, entryReset]
      dormant := by simp [entry_dirReset h.dir, h.dir, dirReset, entryReset]
      directory := by simp [State.DirectoryLaw, h.resv, resvReset]
      absent := by simp [entry_dirReset h.dir, entryReset]
      target := by simp [h.dir, dirReset]
      returns := by simp [h.dir, dirReset]
      joiner := by simp [h.dir, dirReset] }
  member :=
    { heldOnlyJoined := by simp [h.resv, resvReset]
      heldOk := by simp [h.resv, resvReset]
      heldDormant := by simp [h.memb, membReset]
      receiverOff := by simp [h.line, lineReset]
      started := by simp [h.memb, membReset]
      config := cfg
      join := by simp [h.memb, membReset] }

theorem BlocksReset.partLaw (h : BlocksReset t) (cfg : ConfigLaw t.port.cfg) (event : t.EventLaw) : PartLaw t := by
  obtain ⟨clear, unmarked, unreported⟩ := h.clear
  refine .of_units event ⟨by simp [unreported], fun _ => ⟨unmarked, unreported⟩⟩ ?_ ?_
    { records := h.records cfg
      drive := .of_unplaced (by simp [h.motion, motionReset]) (by simp [h.motion, motionReset])
        (by simp [h.motion, motionReset]) clear (by simp [h.motion, motionReset]) (by simp [h.memb, membReset])
        (by simp [h.memb, membReset])
      need := ⟨by simp [NeedOk, h.motion, motionReset], by simp [h.motion, motionReset]⟩ }
  · rw [h.access]
    exact ⟨nofun, List.nodup_nil, fun _ _ => List.not_mem_nil, fun _ => rfl⟩
  · simp [EvictionWindow, h.dir, dirReset]

/-! ### The resets from the supply and from RESET_N (R174, R175) -/

/-- A reset that holds the part leaves every block in its reset state (R174). -/
theorem PartLaw.holdReset (h : PartLaw s) (phase : ResetPhase) :
    PartLaw (s.resetBlocks.setFault { s.resetBlocks.fault with phase := phase }) :=
  BlocksReset.partLaw ⟨rfl, rfl, rfl, rfl, rfl, rfl, rfl, rfl, rfl⟩ h.rail.config ⟨by simp [State.resetBlocks], by
    simp [State.resetBlocks]⟩

theorem endReset_partLaw {cfg : Config} (law : ConfigLaw cfg) (cause : ResetCause) (addr : Addr) (rate : RateCode)
    (seq : Byte) : PartLaw (s.endReset cfg cause addr rate seq) :=
  BlocksReset.partLaw ⟨rfl, rfl, rfl, rfl, rfl, rfl, rfl, rfl, rfl⟩ law ⟨by simp [State.endReset], by
    simp [State.endReset]⟩

/-- A DORMANT station passes to another phase of a reset (R174, R175). -/
theorem PartLaw.setPhase (h : PartLaw s) (held : s.fault.phase ≠ .running) {f : FaultUnit}
    (same : f.cause = s.fault.cause ∧ f.further = s.fault.further ∧ f.intruders = s.fault.intruders) :
    PartLaw (s.setFault f) := by
  obtain ⟨cause, further, intruders⟩ := same
  have dormant := h.units.records.member.heldDormant held
  refine h.silent ?_ ⟨rfl, cause, further, intruders, rfl, rfl⟩
  exact
    { records :=
        { ties := h.units.records.ties.congr rfl rfl rfl rfl rfl
          waiting := h.units.records.waiting
          peers := h.units.records.peers.congr rfl (fun _ => ⟨rfl, rfl, rfl⟩) rfl rfl rfl
          member := { h.units.records.member with heldDormant := fun _ => dormant } }
      drive := h.units.drive.congr (by simp [SameDrive, cause])
      need := h.units.need.congr (by simp [SameNeed]) }

theorem PartLaw.execPowerOnReset (h : PartLaw s) : Lawful (execPowerOnReset s) := (h.holdReset _).lawful

theorem PartLaw.execPowerOnTimeExpiry (h : PartLaw s) (addr : Addr) (rate : RateCode) :
    Lawful (execPowerOnTimeExpiry addr rate s) := by
  refine PartLaw.lawful ?_
  split
  next phase =>
    dsimp only
    split
    · have entered : PartLaw (s.supplyEntersRange) := h.setPhase (by simp [phase]) ⟨rfl, rfl, rfl⟩
      exact (entered.advance powerOnTime).setPhase (by simp [State.supplyEntersRange, phase]) ⟨rfl, rfl, rfl⟩
    · exact endReset_partLaw .default _ _ _ _
  all_goals exact h

theorem PartLaw.execPinReset (h : PartLaw s) : Lawful (execPinReset s) := by
  refine PartLaw.lawful ?_
  split
  · exact h.holdReset _
  next phase => exact h.setPhase (by simp [phase]) ⟨rfl, rfl, rfl⟩
  · exact h

theorem PartLaw.execPinResetRelease (h : PartLaw s) (addr : Addr) (rate : RateCode) :
    Lawful (execPinResetRelease addr rate s) := by
  refine PartLaw.lawful ?_
  split
  · exact endReset_partLaw .default _ _ _ _
  · exact endReset_partLaw .default _ _ _ _
  next phase => exact h.setPhase (by simp [phase]) ⟨rfl, rfl, rfl⟩
  all_goals exact h

/-! ### RESET_STATION (R176) -/

theorem PartLaw.execResetStation (h : PartLaw s) (r : Request) (addr : Addr) (rate : RateCode) :
    Lawful (execResetStation r addr rate s) := by
  have ordered : ConfigLaw s.orderedConfig := by
    unfold State.orderedConfig
    split
    · exact h.rail.config
    · exact .default
  refine PartLaw.lawful ?_
  split
  · exact h
  · split
    · exact endReset_partLaw ordered _ _ _ _
    · exact (h.shiftOut 64).respond _ _ _

end

end Sys2Proof.Machine

/-! PROOFS. The steps of moves and of relocates, the pulse and the stall timer keep the law of the part (R121 to R126, R129,
R130, R139, R140). -/

namespace Sys2Proof.Machine

/-! ### The position that a seen boundary fixes (R6, R7, R139) -/

/-- The carriage at the position that a boundary fixes stands in the relocate range of the direction. -/
theorem fixedPosition_stands {c : Config} (cfg : ConfigLaw c) {k : Nat} {side : Side} {q : ZRange}
    (range : relocateRange c k side = some q) (legal : fixedPosition c k side ≤ maxPosition c) :
    ∃ o, occupiedAt c (fixedPosition c k side) = some o ∧ o.inside q = true := by
  obtain ⟨zone, wide, _⟩ := cfg.bounds
  obtain ⟨_, rail⟩ := occupiedAt_legal cfg legal
  refine ⟨_, occupiedAt_of_legal legal, ?_⟩
  cases side with
  | down =>
    simp only [relocateRange, Option.ite_none_right_eq_some, Option.some.injEq] at range
    obtain ⟨one, rfl⟩ := range
    simp only [fixedPosition] at rail ⊢
    have low : k - 1 ≤ (k * c.s - 1) / c.s := by
      rw [Nat.le_div_iff_mul_le (by omega), Nat.sub_mul]
      omega
    have high : (k * c.s - 1 + c.w * c.s - 1) / c.s < k + c.w := by
      have : 1 ≤ k * c.s := Nat.mul_pos one (by omega)
      rw [Nat.div_lt_iff_lt_mul (by omega), Nat.add_mul]
      omega
    rw [ZRange.run_inside_run]
    omega
  | up =>
    simp only [relocateRange, Option.ite_none_right_eq_some, Option.some.injEq] at range
    obtain ⟨_, rfl⟩ := range
    simp only [fixedPosition] at rail ⊢
    have low : k ≤ (k + 1) * c.s / c.s := by
      rw [Nat.mul_div_cancel _ (by omega)]
      omega
    have high : ((k + 1) * c.s + c.w * c.s - 1) / c.s < k + 1 + c.w := by
      rw [Nat.div_lt_iff_lt_mul (by omega), Nat.add_mul (k + 1) c.w]
      have : 1 ≤ (k + 1) * c.s := Nat.mul_pos (by omega) (by omega)
      omega
    rw [ZRange.run_inside_run]
    omega

section
variable {s t : State}

/-! ### The pulse and the set-up time (R121) -/

theorem PartLaw.setMotion (h : PartLaw s) {x : Motion} (drive : DriveLaw (s.setMotion x)) (need : x.need = s.motion.need) :
    PartLaw (s.setMotion x) :=
  h.silent ⟨h.units.records.setMotion x, drive, h.units.need.congr (by simp [SameNeed, need])⟩ (by simp [SameReports])

/-- The STEP level and the set-up time change; a pulse is high only in a JOINED station without a fault, and a set-up runs
only for a step that is to be taken. -/
theorem DriveLaw.setPulse (h : DriveLaw s) {m : Motion}
    (kept : m.state = s.motion.state ∧ m.p = s.motion.p ∧ m.known = s.motion.known ∧ m.reloc = s.motion.reloc)
    (driven : m.stepHigh = true → s.memb.state = .joined ∧ s.fault.cause = none)
    (runs : m.setupTimer.running = true →
      (m.state = .moving ∧ (s.setMotion m).stepFits = true) ∨
        (m.state = .relocating ∧ ∃ r, m.reloc = some r ∧ r.phase = .stepping)) : DriveLaw (s.setMotion m) := by
  obtain ⟨state, p, known, reloc⟩ := kept
  exact
    { activeOnlyJoined := by simpa [state] using h.activeOnlyJoined
      haltedIffFault := by simpa [state] using h.haltedIffFault
      faultOnlyMember := h.faultOnlyMember
      evictedCause := h.evictedCause
      pulseOnlyDriven := driven
      setupOnlyStepping := fun running => (runs running).imp And.left And.left
      heldJoined := h.heldJoined
      containment := h.containment.congr state p known reloc rfl rfl
      setUpFits := fun running moving => by
        rcases runs running with ⟨-, fits⟩ | ⟨relocating, -⟩
        · exact fits
        · exact absurd (relocating.symm.trans moving) nofun
      setUpSteps := fun running relocating => by
        rcases runs running with ⟨moving, -⟩ | ⟨-, steps⟩
        · exact absurd (moving.symm.trans relocating) nofun
        · exact steps }

/-- A station in MOVING or RELOCATING is JOINED and has no fault (R142, R166). -/
theorem DriveLaw.of_active (h : DriveLaw s) (active : engineActive s.motion.state = true) :
    s.memb.state = .joined ∧ s.fault.cause = none := by
  refine ⟨h.activeOnlyJoined active, ?_⟩
  by_contra latched
  have halted := h.haltedIffFault.2 (Option.isSome_iff_ne_none.2 latched)
  simp [halted, engineActive] at active

theorem PartLaw.beginPulse (h : PartLaw s) (active : engineActive s.motion.state = true) : PartLaw s.beginPulse :=
  h.setMotion (h.units.drive.setPulse ⟨rfl, rfl, rfl, rfl⟩ (fun _ => h.units.drive.of_active active)
    (by simp [Timer.stopped])) rfl

/-- A step is begun: its pulse at once, or the set-up time for a step that is to be taken. -/
theorem PartLaw.beginStep (h : PartLaw s) (active : engineActive s.motion.state = true) {side : Side}
    {take : State → State} (taken : PartLaw s.beginPulse → PartLaw (take s.beginPulse))
    (steps : (s.motion.state = .moving ∧ s.stepFits = true) ∨
      (s.motion.state = .relocating ∧ ∃ r, s.motion.reloc = some r ∧ r.phase = .stepping)) :
    PartLaw (s.beginStep side take) := by
  unfold State.beginStep
  split
  · exact taken (h.beginPulse active)
  · exact h.setMotion (h.units.drive.setPulse ⟨rfl, rfl, rfl, rfl⟩ h.units.drive.pulseOnlyDriven fun _ => steps) rfl

/-! ### A step of a move (R123 to R126) -/

/-- The carriage moves to a position at which it stands inside H. -/
theorem UnitsLaw.countStep (h : UnitsLaw s) (still : s.motion.setupTimer.running = false) {p : Nat} {o : ZRange}
    (occupies : occupiedAt s.port.cfg p = some o) (fits : o.inside s.resv.held = true) (count : Nat) :
    UnitsLaw (s.setMotion { s.motion with p := p, mismatch := count }) := by
  obtain ⟨legal, -⟩ := occupiedAt_eq_some occupies
  exact
    { records := h.records.setMotion _
      drive :=
        { activeOnlyJoined := h.drive.activeOnlyJoined
          haltedIffFault := h.drive.haltedIffFault
          faultOnlyMember := h.drive.faultOnlyMember
          evictedCause := h.drive.evictedCause
          pulseOnlyDriven := h.drive.pulseOnlyDriven
          setupOnlyStepping := h.drive.setupOnlyStepping
          heldJoined := h.drive.heldJoined
          containment :=
            { knownState := h.drive.containment.knownState
              placed := h.drive.containment.placed
              legal := fun _ => legal
              inside := fun knows => by
                have known : s.motion.known = true := knows
                simpa [State.occupied, known, occupies] using fits
              relocating := h.drive.containment.relocating }
          setUpFits := fun running => by simp [still] at running
          setUpSteps := h.drive.setUpSteps }
      need := h.need.congr (by simp [SameNeed]) }

theorem RecordsLaw.releaseBehind (h : RecordsLaw s) : RecordsLaw s.releaseBehind := by
  unfold State.releaseBehind
  split
  · split
    · exact h.release _ _
    · exact h.release _ _
    · exact h
  · exact h

/-- Release-behind gives up zones behind the carriage only (R125). -/
theorem DriveLaw.releaseBehind (h : DriveLaw s) (member : MemberLaw s) (steady : s.Steady)
    (known : s.motion.known = true) :
    DriveLaw s.releaseBehind ∧ s.releaseBehind.motion.state = s.motion.state := by
  unfold State.releaseBehind
  split
  · split
    next occ _ => exact ⟨h.releaseBelow member steady known occ, (steady.release _ _).1⟩
    next occ _ => exact ⟨h.releaseAbove member steady known occ, (steady.release _ _).1⟩
    · exact ⟨h, rfl⟩
  · exact ⟨h, rfl⟩

theorem UnitsLaw.arriveOrGoOn (records : RecordsLaw s) (drive : DriveLaw s) (moving : s.motion.state = .moving) :
    UnitsLaw s.arriveOrGoOn := by
  unfold State.arriveOrGoOn
  split
  · have ⟨known, joined, clear⟩ := drive.of_placed (.inr (.inl moving))
    exact .endMove (records.setMotion _) (drive.idle known joined clear) (.inl rfl) .arrived
  · have needs := UnitsLaw.updateNeed records drive (.of_not_relocating (by simp [moving]))
    exact ⟨needs.records.setMotion _, needs.drive.congr (by simp [SameDrive]), needs.need.congr (by simp [SameNeed])⟩

theorem UnitsLaw.takeMoveStep (h : UnitsLaw s) (moving : s.motion.state = .moving)
    (still : s.motion.setupTimer.running = false) (fits : s.stepFits = true) : UnitsLaw s.takeMoveStep := by
  obtain ⟨p, o, candidate, occupies, inside⟩ := fitsIn_iff.1 fits
  have ⟨known, joined, _⟩ := h.drive.of_placed (.inr (.inl moving))
  have counted := h.countStep still occupies inside (mismatchAfter s.port.cfg p s.reading s.motion.mismatch)
  have steady : State.Steady (s.setMotion
      { s.motion with p := p, mismatch := mismatchAfter s.port.cfg p s.reading s.motion.mismatch }) :=
    ⟨by simp [moving], by simp [moving], still⟩
  unfold State.takeMoveStep
  rw [candidate]
  dsimp only
  split
  · exact counted.reportFault joined _
  · have ⟨drive, state⟩ := counted.drive.releaseBehind counted.records.member steady known
    exact .arriveOrGoOn counted.records.releaseBehind drive (state.trans moving)

theorem PartLaw.takeMoveStep (h : PartLaw s) (moving : s.motion.state = .moving)
    (still : s.motion.setupTimer.running = false) (fits : s.stepFits = true) : PartLaw s.takeMoveStep :=
  h.ofUnits (h.units.takeMoveStep moving still fits) (s.takeMoveStep_eventLimits h.event)
    (s.takeMoveStep_latchLaw h.latch) (by simp) (by simp)

/-- A move that cannot step stalls (R129). -/
theorem PartLaw.enterStalled (h : PartLaw s) (moving : s.motion.state = .moving)
    (still : s.motion.setupTimer.running = false) : PartLaw s.enterStalled := by
  have ⟨known, joined, clear⟩ := h.units.drive.of_placed (.inr (.inl moving))
  refine h.setMotion ?_ rfl
  exact
    { activeOnlyJoined := fun _ => joined
      haltedIffFault := by simp [clear]
      faultOnlyMember := h.units.drive.faultOnlyMember
      evictedCause := h.units.drive.evictedCause
      pulseOnlyDriven := h.units.drive.pulseOnlyDriven
      setupOnlyStepping := by simp [still]
      heldJoined := h.units.drive.heldJoined
      containment :=
        { knownState := by simp
          placed := fun _ => known
          legal := h.units.drive.containment.legal
          inside := h.units.drive.containment.inside
          relocating := by simp }
      setUpFits := by simp
      setUpSteps := by simp }

theorem PartLaw.execStepEvent (h : PartLaw s) (zone : Byte) : Lawful (execStepEvent zone s) := by
  refine PartLaw.lawful ?_
  split
  next due =>
    obtain ⟨moving, -, still⟩ := due
    have passed := (h.withZone zone).advance
      ((s.withZone zone).motion.stepTimer.remaining (s.withZone zone).port.cfg.stepPeriod)
    refine PartLaw.kick ?_
    split
    next fits =>
      refine passed.beginStep (by simp [moving, engineActive]) (fun begun => ?_) (.inl ⟨by simpa using moving, fits⟩)
      exact begun.takeMoveStep (by simpa [State.beginPulse] using moving) rfl fits
    next => exact passed.enterStalled (by simpa using moving) (by simpa [State.advance] using still)
  · exact h

/-! ### A step of a relocate (R139, R140) -/

/-- A relocate in phase STEPPING holds its range (R136, R138). -/
theorem DriveLaw.steps (h : DriveLaw s) {r : RelocRecord} (relocating : s.motion.state = .relocating)
    (record : s.motion.reloc = some r) (stepping : r.phase = .stepping) :
    RelocOpen s.port.cfg s.resv.held r ∧ relocFits s.port.cfg r s.resv.held = true := by
  obtain ⟨r', record', rail, range, stands, fits⟩ := h.containment.relocating relocating
  obtain rfl := Option.some.inj (record.symm.trans record')
  exact ⟨⟨rail, range, stands⟩, fits stepping⟩

/-- An engine at rest gives up its relocate record. -/
theorem DriveLaw.dropReloc (h : DriveLaw s) (idle : s.motion.state = .idle) :
    DriveLaw (s.setMotion { s.motion with reloc := none }) where
  activeOnlyJoined := h.activeOnlyJoined
  haltedIffFault := h.haltedIffFault
  faultOnlyMember := h.faultOnlyMember
  evictedCause := h.evictedCause
  pulseOnlyDriven := h.pulseOnlyDriven
  setupOnlyStepping := h.setupOnlyStepping
  heldJoined := h.heldJoined
  containment :=
    { knownState := h.containment.knownState
      placed := h.containment.placed
      legal := h.containment.legal
      inside := h.containment.inside
      relocating := by simp [idle] }
  setUpFits := h.setUpFits
  setUpSteps := by simp [idle]

/-- The engine at rest at a position that a boundary has fixed (R139). -/
def State.placeAt (s : State) (p : Nat) : State :=
  s.setMotion { s.motion.stopStepping with p := p, known := true, mismatch := 0, state := .idle }

theorem DriveLaw.placeAt (joined : s.memb.state = .joined) (clear : s.fault.cause = none) {p : Nat} {o : ZRange}
    (occupies : occupiedAt s.port.cfg p = some o) (stands : o.inside s.resv.held = true) : DriveLaw (s.placeAt p) where
  activeOnlyJoined _ := joined
  haltedIffFault := by simp [State.placeAt, clear]
  faultOnlyMember := by simp [State.placeAt, clear]
  evictedCause := by simp [State.placeAt, joined]
  pulseOnlyDriven _ := ⟨joined, clear⟩
  setupOnlyStepping := by simp [State.placeAt, Timer.stopped]
  heldJoined _ empty := by
    have empty : s.resv.held = .empty := empty
    rw [(occupiedAt_eq_some occupies).2, empty] at stands
    exact absurd stands nofun
  containment :=
    { knownState := by simp [State.placeAt]
      placed := fun _ => rfl
      legal := fun _ => (occupiedAt_eq_some occupies).1
      inside := fun _ => by simpa [State.placeAt, State.occupied, occupies] using stands
      relocating := by simp [State.placeAt] }
  setUpFits := by simp [State.placeAt, Timer.stopped]
  setUpSteps := by simp [State.placeAt, Timer.stopped]

/-- A relocate that sees its boundary knows its place and comes to rest (R139). -/
theorem UnitsLaw.relocateDone (records : RecordsLaw s) (joined : s.memb.state = .joined) (clear : s.fault.cause = none)
    {p : Nat} {o : ZRange} (occupies : occupiedAt s.port.cfg p = some o) (stands : o.inside s.resv.held = true) :
    UnitsLaw (s.relocateDone p) := by
  have placed : RecordsLaw (s.placeAt p) := records.setMotion _
  have drive : DriveLaw (s.placeAt p) := .placeAt joined clear occupies stands
  have steady : (s.placeAt p).Steady := ⟨by simp [State.placeAt], by simp [State.placeAt], rfl⟩
  have trimmed := drive.trim placed steady rfl
  have reported := (placed.trim.orphanClaim).queueEvent (.relocateDone p (p / s.port.cfg.s))
  have same : DriveLaw ((s.placeAt p).trim.orphanClaim.queueEvent (.relocateDone p (p / s.port.cfg.s))) :=
    trimmed.congr (by simp [SameDrive])
  have idle : ((s.placeAt p).trim.orphanClaim.queueEvent (.relocateDone p (p / s.port.cfg.s))).motion.state = .idle := by
    have rests : (s.placeAt p).trim.motion.state = .idle := steady.trim.2
    simpa using rests
  exact .updateNeed (reported.setMotion _) (same.dropReloc idle)
    (.of_not_relocating fun relocating => absurd (idle.symm.trans relocating) nofun)

theorem UnitsLaw.takeRelocStep (h : UnitsLaw s) (relocating : s.motion.state = .relocating) {r : RelocRecord}
    (record : s.motion.reloc = some r) (stepping : r.phase = .stepping) (still : s.motion.setupTimer.running = false) :
    UnitsLaw s.takeRelocStep := by
  have ⟨⟨rail, range, stands⟩, fits⟩ := h.drive.steps relocating record stepping
  have ⟨joined, clear, unknown⟩ := h.drive.of_relocating relocating
  have relocates : State.Relocates (s.setMotion { s.motion with reloc := some { r with steps := r.steps + 1 } }) :=
    ⟨relocating, joined, clear, unknown, still⟩
  have counted : UnitsLaw (s.setMotion { s.motion with reloc := some { r with steps := r.steps + 1 } }) :=
    ⟨h.records.setMotion _, relocates.drive rfl ⟨rail, range, stands⟩ fun _ => fits, h.need.congr (by simp [SameNeed])⟩
  unfold State.takeRelocStep
  rw [record]
  dsimp only
  split
  · split
    next legal =>
      obtain ⟨q, range⟩ := Option.isSome_iff_exists.1 range
      have within : q.inside s.resv.held = true := by simpa [relocFits, range] using fits
      obtain ⟨o, occupies, inside⟩ := fixedPosition_stands h.records.member.config range legal
      exact .relocateDone counted.records joined clear occupies (ZRange.inside_trans inside within)
    next => exact counted.reportFault joined _
  · split
    · exact counted.reportFault joined _
    · exact counted.congr (by simp [SameRecords]) (by simp [SameDrive]) (by simp [SameNeed])
  · exact counted.reportFault joined _

theorem PartLaw.takeRelocStep (h : PartLaw s) (relocating : s.motion.state = .relocating) {r : RelocRecord}
    (record : s.motion.reloc = some r) (stepping : r.phase = .stepping) (still : s.motion.setupTimer.running = false) :
    PartLaw s.takeRelocStep :=
  h.ofUnits (h.units.takeRelocStep relocating record stepping still) (s.takeRelocStep_eventLimits h.event)
    (s.takeRelocStep_latchLaw h.latch) (by simp) (by simp)

theorem PartLaw.execRelocateStepEvent (h : PartLaw s) (zone : Byte) : Lawful (execRelocateStepEvent zone s) := by
  refine PartLaw.lawful ?_
  split
  next r record =>
    split
    next due =>
      obtain ⟨relocating, stepping, -, -⟩ := due
      have passed := (h.withZone zone).advance
        ((s.withZone zone).motion.stepTimer.remaining (s.withZone zone).port.cfg.stepPeriod)
      refine PartLaw.kick (passed.beginStep (by simp [relocating, engineActive]) (fun begun => ?_)
        (.inr ⟨by simpa using relocating, r, by simpa using record, stepping⟩))
      exact begun.takeRelocStep (r := r) (by simpa [State.beginPulse] using relocating)
        (by simpa [State.beginPulse] using record) stepping rfl
    · exact h
  · exact h

/-! ### The pulse and the stall timer (R121, R130) -/

theorem PartLaw.execStepPulseStart (h : PartLaw s) (zone : Byte) : Lawful (execStepPulseStart zone s) := by
  refine PartLaw.lawful ?_
  split
  next runs =>
    have passed := (h.withZone zone).advance
      ((s.withZone zone).motion.setupTimer.remaining dirSetupTime)
    refine PartLaw.kick ?_
    rcases h.units.drive.setupOnlyStepping runs with moving | relocating
    · have begun := passed.beginPulse (by simp [moving, engineActive])
      have moves : ((s.withZone zone).advance
          ((s.withZone zone).motion.setupTimer.remaining dirSetupTime)).beginPulse.motion.state = .moving := by
        simpa [State.beginPulse] using moving
      rw [moves]
      refine begun.takeMoveStep moves rfl ?_
      simpa [State.stepFits, State.candidate, State.beginPulse] using h.units.drive.setUpFits runs moving
    · have begun := passed.beginPulse (by simp [relocating, engineActive])
      have relocates : ((s.withZone zone).advance
          ((s.withZone zone).motion.setupTimer.remaining dirSetupTime)).beginPulse.motion.state = .relocating := by
        simpa [State.beginPulse] using relocating
      obtain ⟨r, record, stepping⟩ := h.units.drive.setUpSteps runs relocating
      rw [relocates]
      exact begun.takeRelocStep (r := r) relocates (by simpa [State.beginPulse] using record) stepping rfl
  · exact h

theorem PartLaw.execStepPulseEnd (h : PartLaw s) : Lawful (execStepPulseEnd s) := by
  refine PartLaw.lawful ?_
  split
  · have passed := h.advance (s.motion.pulseTimer.remaining stepPulseWidth)
    have drive := passed.units.drive
    exact passed.setMotion (drive.setPulse ⟨rfl, rfl, rfl, rfl⟩ nofun fun running =>
      (drive.setupOnlyStepping running).imp (fun moving => ⟨moving, drive.setUpFits running moving⟩)
        fun relocating => ⟨relocating, drive.setUpSteps running relocating⟩) rfl
  · exact h

theorem PartLaw.execStallTimerExpiry (h : PartLaw s) : Lawful (execStallTimerExpiry s) := by
  refine PartLaw.lawful ?_
  split
  next due => exact ((h.advance _).endMove (.inr (.inr (by simpa using due.1))) .blocked).kick
  · exact h

end

end Sys2Proof.Machine

/-! PROOFS. Every command, and the microsecond that passes where none waits, keep the law of the part (R65, R120). -/

namespace Sys2Proof.Machine

/-- A request whose effect keeps the law of the part completes and keeps it. -/
theorem PartLaw.request {s : State} (h : PartLaw s) {act : State → State × Status} (lawful : LawfulAct act) (kind : Byte)
    (r : Request) (data : State → State → Status → Data) : Lawful (.next (s.takeRequest kind r act data)) :=
  (h.takeRequest lawful kind r data).lawful

theorem PartLaw.frame {s : State} (h : PartLaw s) (sender : Addr) (f : Frame) (zone : Byte) :
    Lawful (.next (s.onFrame sender f zone)) :=
  (h.onFrame sender f zone).lawful

theorem PartLaw.exec {s : State} (h : PartLaw s) (c : Instr) : Lawful (exec c s) := by
  cases c with
  | nop r => exact h.request (lawfulAct_of_no_effect fun _ => rfl) _ r _
  | configure r => exact h.request (lawfulAct_configure _ _) _ r _
  | start r zone => exact (h.withZone zone).request lawfulAct_start _ r _
  | move r => exact h.request (lawfulAct_move _) _ r _
  | stop r => exact h.request lawfulAct_stop _ r _
  | relocate r zone => exact (h.withZone zone).request lawfulAct_relocate _ r _
  | evict r => exact h.request (lawfulAct_evict _) _ r _
  | clearFault r => exact h.request lawfulAct_clearFault _ r _
  | resetStation r addr rate => exact h.execResetStation r addr rate
  | readStatus r => exact h.request (lawfulAct_readStatus _) _ r _
  | readPeer r => exact h.request (lawfulAct_readPeer _ _) _ r _
  | takeEvent r => exact h.request lawfulAct_takeEvent _ r _
  | unknownRequest kind r => exact h.execUnknownRequest kind r
  | cutTransaction clocks => exact h.execCutTransaction clocks
  | powerOnReset => exact h.execPowerOnReset
  | powerOnTimeExpiry addr rate => exact h.execPowerOnTimeExpiry addr rate
  | pinReset => exact h.execPinReset
  | pinResetRelease addr rate => exact h.execPinResetRelease addr rate
  | activity => exact h.execActivity
  | lineIdle => exact h.execLineIdle
  | lineBreak => exact h.execLineBreak
  | presenceFrame sender held occupied mode zone => exact h.frame sender _ zone
  | claimFrame sender addressee tag side unopposed range zone => exact h.frame sender _ zone
  | grantFrame sender claimant tag range zone => exact h.frame sender _ zone
  | refuseFrame sender answered tag reason zone => exact h.frame sender _ zone
  | releaseFrame sender range zone => exact h.frame sender _ zone
  | joinFrame sender attempt occupied zone => exact h.frame sender _ zone
  | recallFrame sender joiner side bound zone => exact h.frame sender _ zone
  | evictFrame sender target zone => exact h.frame sender _ zone
  | undefinedFrame chars zone => exact h.execUndefinedFrame chars zone
  | corruptedFrame zone => exact h.execCorruptedFrame zone
  | settleEnd => exact h.execSettleEnd
  | slotBoundary zone => exact h.execSlotBoundary zone
  | unsyncedIdleExpiry => exact h.execUnsyncedIdleExpiry
  | ageExpiry peer => exact h.execAgeExpiry peer
  | rearmTimerExpiry => exact h.execRearmTimerExpiry
  | listenTimerExpiry zone => exact h.execListenTimerExpiry zone
  | joinReadingRetry zone => exact h.execJoinReadingRetry zone
  | presenceTimerExpiry => exact h.execPresenceTimerExpiry
  | stepEvent zone => exact h.execStepEvent zone
  | relocateStepEvent zone => exact h.execRelocateStepEvent zone
  | stallTimerExpiry => exact h.execStallTimerExpiry
  | stepPulseEnd => exact h.execStepPulseEnd
  | characterReceived data parity stop => exact h.execCharacterReceived data parity stop
  | lineReturnsRecessive => exact h.execLineReturnsRecessive
  | readbackMismatch => exact h.execReadbackMismatch
  | stepPulseStart zone => exact h.execStepPulseStart zone

theorem PartLaw.setPending {s : State} (h : PartLaw s) (rest : List Instr) : PartLaw (s.setPending rest) :=
  h.silent (h.units.congr (by simp [SameRecords]) (by simp [SameDrive]) (by simp [SameNeed])) (by simp [SameReports])

theorem PartLaw.step {s : State} (h : PartLaw s) : Lawful (step s) := by
  unfold Machine.step
  split
  · exact (h.advance 1).lawful
  next c rest _ => exact (h.setPending rest).exec c

end Sys2Proof.Machine

namespace Sys2Proof
open Machine

/-- Settles O59: the laws are sorted by the fields they read, every operation of a unit keeps the ones it touches, and a
command is made of such operations. The step that carries it is that a position, a range of H or a need changes only
under the test that the laws of the rail ask for. -/
theorem everyStepKeepsThePartLaw : Obligations.EveryStepKeepsThePartLaw := by
  intro s t h steps
  obtain ⟨t', completes, law⟩ := h.step
  obtain rfl : t' = t := Host.Outcome.next.inj (completes.symm.trans steps)
  exact law

end Sys2Proof

/-! PROOFS. A peer's frame at the directory, and the age of a peer: RELEASE and AGE_EXPIRY (R50, R55, R59, R66). -/

namespace Sys2Proof.Machine

section
variable {s s1 : State} {zone : Byte} {sender : Addr} {f : Frame}

/-! ### What a write of one entry leaves (R47, R50) -/

theorem State.evictionOf_of_not_evicting {x : Addr} (settled : (s.entry x).state ≠ .evicting) : s.evictionOf x = none := by
  simp [State.evictionOf, Option.filter_eq_none_iff, settled]

theorem State.evictionOf_of_target {r : EvictionPending} (pends : s.dir.eviction = some r)
    (evicting : (s.entry r.target).state = .evicting) : s.evictionOf r.target = some r := by
  simp [State.evictionOf, pends, evicting]

theorem State.setEntry_of_settled {x : Addr} {st : PeerState} {e : PeerEntry} (settled : (s.entry x).state ≠ .evicting) :
    s.setEntry x st e = s.setDir { s.dir with entries := s.dir.entries.set x { e with state := st } } := by
  obtain ⟨-, eq⟩ | ⟨r, pends, -⟩ := s.setEntry_spec x st e
  · exact eq
  · simp [State.evictionOf_of_not_evicting settled] at pends

theorem State.setEntry_of_target {r : EvictionPending} {st : PeerState} {e : PeerEntry} (pends : s.dir.eviction = some r)
    (evicting : (s.entry r.target).state = .evicting) :
    s.setEntry r.target st e = s.setDir
      { entries := s.dir.entries.set r.target { e with state := .evicting }
        eviction := some { r with returnState := st } } := by
  obtain ⟨free, -⟩ | ⟨r', -, pends', -, -, eq⟩ := s.setEntry_spec r.target st e
  · simp [State.evictionOf_of_target pends evicting] at free
  · obtain rfl := Option.some.inj (pends.symm.trans pends')
    exact eq

theorem State.entry_setEntry_other {x a : Addr} {st : PeerState} {e : PeerEntry} (other : a ≠ x) :
    (s.setEntry x st e).entry a = s.entry a := by
  obtain ⟨-, eq⟩ | ⟨r, -, -, -, -, eq⟩ := s.setEntry_spec x st e <;>
  · rw [eq, State.entry_of_set (s := s) rfl, if_neg other]

/-- The state the rules act on is that of the entry, unless the entry is EVICTING (R50). -/
theorem State.standing_of_settled {x : Addr} (settled : (s.entry x).state ≠ .evicting) :
    s.standing x = (s.entry x).state := by
  unfold State.standing
  split <;> simp [settled]

theorem State.standing_of_target {r : EvictionPending} (pends : s.dir.eviction = some r)
    (evicting : (s.entry r.target).state = .evicting) : s.standing r.target = r.returnState := by
  simp [State.standing, pends, evicting]

/-! ### A delivery from a peer, up to the directory (R31, R36, R41, R50) -/

/-- A burst that is a given frame delivers it. -/
theorem State.onFrame_of_burst {own : Bool} (h : s.burstIs zone sender own f s1) :
    s.onFrame sender f zone = s1.deliverValid sender own (some f) := by
  obtain ⟨ends, judged⟩ := h
  simp [State.onFrame, ends, judged]

/-- A burst judged valid that is not this station's own comes from a peer (R21, R47). -/
theorem State.isPeer_of_burst (h : s.burstIs zone sender false f s1) : s1.isPeer sender = true := by
  have judged := h.2
  unfold State.judgement at judged
  split at judged
  · have judged := Option.some.inj judged
    unfold judgeBurst at judged
    dsimp only at judged
    split at judged
    · simp at judged
    · split_ifs at judged with faultless
      obtain ⟨rfl, foreign, -⟩ := Judgement.valid.inj judged
      simp only [foreign, Bool.or_eq_true, decide_eq_true_eq, not_or, Bool.not_false, Bool.and_true, beq_iff_eq] at faultless
      obtain ⟨⟨⟨-, known⟩, other⟩, -⟩ := faultless
      exact State.isPeer_iff.2 ⟨other, not_le.1 known⟩
  · simp at judged

@[simp] theorem State.received_reads (s : State) (sender : Addr) :
    (s.received sender).straps = s.straps ∧ (s.received sender).dir = s.dir ∧ (s.received sender).resv = s.resv ∧
    (s.received sender).memb = s.memb ∧ (s.received sender).motion = s.motion ∧ (s.received sender).port = s.port ∧
    (s.received sender).fault = s.fault ∧ (s.received sender).access.window = s.access.window ∧
    (s.received sender).access.phase = .settle ∧ (s.received sender).access.base = some sender ∧
    (s.received sender).access.slot = none ∧ (s.received sender).access.busTimer = ⟨true, s.line.lineTimer.value⟩ ∧
    (s.received sender).line.rx = .await ∧ (s.received sender).line.txChars = [] := by
  simp [State.received, State.takeDelivery]

@[simp] theorem State.entry_received (s : State) (sender a : Addr) : (s.received sender).entry a = s.entry a := by
  simp [State.entry]

@[simp] theorem State.standing_received (s : State) (sender a : Addr) :
    (s.received sender).standing a = s.standing a := by
  simp [State.standing]

/-- A frame that opens no window and concerns no unit but the directory. -/
theorem State.deliverValid_presence (s : State) (sender : Addr) (held occupied : ZRange) (mode : MotionState) :
    s.deliverValid sender false (some (.presence held occupied mode)) =
      ((s.received sender).dirTake sender (some (.presence held occupied mode))).heard sender := rfl

theorem State.deliverValid_release (s : State) (sender : Addr) (range : ZRange) :
    s.deliverValid sender false (some (.release range)) =
      ((s.received sender).dirTake sender (some (.release range))).heard sender := rfl

/-- A sender that does not close the window only leaves the unheard set (R41). -/
theorem State.heard_of_unclosed {a : Addr} (h : s.access.window.unclosedBy a) :
    s.heard a = s.setAccess { s.access with window := s.access.window.after a } := by
  have unlisted (w : Window) (absent : a ∉ w.unheard) : { w with unheard := w.unheard.filter fun x => x != a } = w := by
    have same : w.unheard.filter (fun x => x != a) = w.unheard :=
      List.filter_eq_self.2 fun x listed => by simpa using fun same : x = a => absent (same ▸ listed)
    rw [same]
  unfold State.heard
  dsimp only
  split
  next listed =>
    simp only [Bool.and_eq_true] at listed
    rcases h with shut | ⟨-, b, unheard, other⟩
    · simp [shut] at listed
    · have waits : (s.access.window.unheard.filter fun x => x != a).isEmpty = false := by
        simp only [List.isEmpty_eq_false_iff_exists_mem, List.mem_filter]
        exact ⟨b, unheard, by simpa using other⟩
      simp [waits, Window.after, listed.1]
  next absent =>
    have same : s.access.window.after a = s.access.window := by
      unfold Window.after
      split
      next isOpen => exact unlisted _ (by simpa [isOpen] using absent)
      · rfl
    rw [same]
    rfl

/-- What the delivery leaves of the access unit and the line unit, whatever the directory does (R29, R31, R41). -/
theorem State.delivery_counts (unclosed : s1.access.window.unclosedBy sender) (f : Option Frame) :
    let u := (s1.received sender).dirTake sender f
    u.heard sender = u.setAccess { u.access with window := s1.access.window.after sender } ∧
      CountRestarted s1 (u.heard sender) sender := by
  have heard := State.heard_of_unclosed (s := (s1.received sender).dirTake sender f) (a := sender) (by simpa using unclosed)
  refine ⟨by simpa using heard, ?_⟩
  rw [heard]
  simp [CountRestarted]

/-! ### The age (R50) -/

theorem State.entry_touch {x : Addr} (peer : s.isPeer x = true) (a : Addr) :
    (s.touch x).entry a = if a = x then { s.entry x with age := 0 } else s.entry a := by
  unfold State.touch
  rw [if_pos peer]
  exact State.entry_of_set rfl a

theorem State.standing_touch {x : Addr} (peer : s.isPeer x = true) (a : Addr) :
    (s.touch x).standing a = s.standing a := by
  have state : ((s.touch x).entry a).state = (s.entry a).state := by
    rw [State.entry_touch peer]
    split
    next same => rw [same]
    · rfl
  simp [State.standing, state]

/-! ### RELEASE (R55) -/

theorem State.entry_dirRelease (s : State) (x : Addr) (range : ZRange) (a : Addr) :
    (s.dirRelease x range).entry a =
      if a = x then { s.entry x with held := (s.entry x).held.remove range } else s.entry a := by
  refine State.entry_of_set ?_ a
  simp [State.dirRelease]

theorem State.isPeer_received {x : Addr} : (s.received sender).isPeer x = s.isPeer x := by
  simp [State.isPeer]

theorem State.dirTake_release (peer : s.isPeer sender = true) (range : ZRange) :
    s.dirTake sender (some (.release range)) = (s.touch sender).dirRelease sender range := by
  simp [State.dirTake, peer]

/-! ### An entry goes SILENT (R59) -/

/-- The held range of an entry that goes SILENT: a JOINING peer's carriage joins it, clipped against H (R59). -/
def State.silentHeld (s : State) (a : Addr) : ZRange :=
  if s.standing a = .joining then clip s.resv.held ((s.entry a).held.span (s.entry a).occupied) (s.entry a).occupied
  else (s.entry a).held

theorem State.dir_silence (s : State) (a : Addr) :
    (s.silence a).dir = (s.setEntry a .silent { s.entry a with held := s.silentHeld a }).dir := by
  simp [State.silence, State.silentHeld]

theorem State.events_silence (s : State) (a : Addr) :
    (s.silence a).port.events = placeEvent s.port.events (.peerSilent a) := by
  simp [State.silence, State.queueEvent]

theorem State.entry_silence_other {a b : Addr} (other : b ≠ a) : (s.silence a).entry b = s.entry b := by
  have written := State.entry_setEntry_other (s := s) (st := .silent)
    (e := { s.entry a with held := s.silentHeld a }) other
  rw [← written]
  simp [State.entry, State.dir_silence]

theorem State.silence_of_settled {a : Addr} (settled : (s.entry a).state ≠ .evicting) :
    (s.silence a).entry a = { s.entry a with state := .silent, held := s.silentHeld a } ∧
      (s.silence a).dir.eviction = s.dir.eviction := by
  have written := s.dir_silence a
  rw [State.setEntry_of_settled settled] at written
  exact ⟨by rw [State.entry_of_set (s := s) (by rw [written]; rfl), if_pos rfl], by rw [written]; rfl⟩

theorem State.silence_of_target {r : EvictionPending} (pends : s.dir.eviction = some r)
    (evicting : (s.entry r.target).state = .evicting) :
    (s.silence r.target).entry r.target = { s.entry r.target with state := .evicting, held := s.silentHeld r.target } ∧
      (s.silence r.target).dir.eviction = some { r with returnState := .silent } := by
  have written := s.dir_silence r.target
  rw [State.setEntry_of_target pends evicting] at written
  exact ⟨by rw [State.entry_of_set (s := s) (by rw [written]; rfl), if_pos rfl], by rw [written]; rfl⟩

/-- Outside QUIET no instant of handover comes (R33). -/
theorem State.kick_of_not_quiet (busy : s.access.phase ≠ .quiet) : s.kick = s := if_neg busy

/-- The part when the age of an entry has run out, before the entry goes SILENT. -/
def State.aged (s : State) (a : Addr) : State := s.advance (3 * s.presenceInterval - (s.entry a).age)

theorem exec_ageExpiry_of_ages {a : Addr} (active : s.dirActive = true) (peer : s.isPeer a = true)
    (ages : (s.standing a).ages = true) : exec (.ageExpiry a) s = .next ((s.aged a).silence a).kick := by
  simp [exec, execAgeExpiry, active, peer, ages, State.aged]

theorem exec_ageExpiry_of_not_ages {a : Addr} (ages : (s.standing a).ages = false) :
    exec (.ageExpiry a) s = .next s := by
  simp [exec, execAgeExpiry, ages]

theorem State.entry_aged {a : Addr} (active : s.dirActive = true) (peer : s.isPeer a = true) :
    (s.aged a).entry a = { s.entry a with age := max (s.entry a).age (3 * s.presenceInterval) } := by
  have reaches : (s.entry a).age + (3 * s.presenceInterval - (s.entry a).age) =
      max (s.entry a).age (3 * s.presenceInterval) := by omega
  rw [State.aged, State.entry_advance, if_pos ⟨active, peer⟩, reaches]

theorem State.silentHeld_aged (s : State) (a : Addr) : (s.aged a).silentHeld a = s.silentHeld a := by
  have ⟨_, held, occupied⟩ := State.entry_advance_reads (s := s) (3 * s.presenceInterval - (s.entry a).age) a
  simp [State.silentHeld, State.aged, State.standing_advance, held, occupied]

end

end Sys2Proof.Machine

namespace Sys2Proof
open Machine

/-- Settles O33: the directory takes the RELEASE after it has set the sender's age to 0, and no other unit acts on it. -/
theorem releaseShrinksTheSendersEntry : Obligations.ReleaseShrinksTheSendersEntry := by
  intro s s1 zone sender range burst unclosed
  have peer := State.isPeer_of_burst burst
  refine ⟨_, congrArg Host.Outcome.next (State.onFrame_of_burst burst), ?_⟩
  rw [State.deliverValid_release]
  obtain ⟨heard, counts⟩ := State.delivery_counts unclosed (some (.release range))
  refine ⟨counts, ?_⟩
  have received : (s1.received sender).isPeer sender = true := by rwa [State.isPeer_received]
  rw [heard, State.dirTake_release received]
  have entry (a : Addr) := ((s1.received sender).touch sender).entry_dirRelease sender range a
  refine ⟨rfl, ?_, fun a other => ?_, by simp, by simp, by simp, by simp, by simp, by simp⟩
  · refine (entry sender).trans ?_
    simp [State.entry_touch received]
  · refine (entry a).trans ?_
    simp [State.entry_touch received, other]

/-- Settles O47: time brings the age to 3 P, the entry is written SILENT, or its return state is, and a handover in QUIET
touches neither the directory nor H. -/
theorem silentPeerKeepsItsZones : Obligations.SilentPeerKeepsItsZones := by
  intro s a r active peer e joiner
  by_cases ages : (s.standing a).ages = true
  · refine ⟨_, exec_ageExpiry_of_ages active peer ages, ?_⟩
    have aged := State.entry_aged active peer
    have held := s.silentHeld_aged a
    have events (busy : s.access.phase ≠ .quiet) :
        ((s.aged a).silence a).kick.port.events = placeEvent s.port.events (.peerSilent a) := by
      rw [State.kick_of_not_quiet (by simpa [State.aged] using busy), State.events_silence]
      simp [State.aged]
    have kicked (b : Addr) : ((s.aged a).silence a).kick.entry b = ((s.aged a).silence a).entry b := by
      simp [State.entry]
    refine ⟨by simp [State.aged], by simp [State.aged], by simp [SameLatch, State.aged], fun state => ?_,
      fun pends target evicting _ => ?_, fun rests => ?_, fun b other => ?_⟩
    · have settled : e.state ≠ .evicting := by rcases state with state | state <;> simp [state]
      have ⟨entry, eviction⟩ := State.silence_of_settled (s := s.aged a) (a := a) (by rw [aged]; exact settled)
      have stands : s.standing a = e.state := State.standing_of_settled settled
      rw [kicked, entry, held, aged]
      refine ⟨rfl, ?_, rfl, rfl, by simpa [State.aged] using eviction, rfl, events⟩
      simp [State.silentHeld, stands, joiner, e]
    · subst target
      have pends' : (s.aged r.target).dir.eviction = some r := by simpa [State.aged] using pends
      have ⟨entry, eviction⟩ := State.silence_of_target pends' (by rw [aged]; exact evicting)
      exact ⟨by rw [kicked, entry], by simpa using eviction, events⟩
    · have settled : e.state ≠ .evicting := by rcases rests with state | state <;> simp [state]
      rw [State.standing_of_settled settled] at ages
      rcases rests with state | state <;> exact absurd ages (by simp only [e] at state; simp [state, PeerState.ages])
    · rw [kicked, State.entry_silence_other other]
      have ⟨state, same, _⟩ := State.entry_advance_reads (s := s) (3 * s.presenceInterval - (s.entry a).age) b
      exact ⟨state, same⟩
  · refine ⟨_, exec_ageExpiry_of_not_ages (by simpa using ages), rfl, rfl, ⟨rfl, rfl, rfl, rfl, rfl⟩, fun state => ?_,
      fun pends target evicting returns => ?_, fun _ => rfl, fun b _ => ⟨rfl, rfl⟩⟩
    · have settled : e.state ≠ .evicting := by rcases state with state | state <;> simp [state]
      rw [State.standing_of_settled settled] at ages
      rcases state with state | state <;> exact absurd (by simp only [e] at state; simp [state, PeerState.ages]) ages
    · subst target
      rw [State.standing_of_target pends evicting] at ages
      rcases returns with state | state <;> exact absurd (by simp [state, PeerState.ages]) ages

end Sys2Proof

/-! PROOFS. A PRESENCE at the directory: the clip, the events it queues, the intrusion it shows and the reservation unit it
re-arms (R50 to R53, R63, R75, R142, R167). -/

namespace Sys2Proof

/-! ### The clip (R52) -/

/-- The first zone of a range that another holds is the lowest of their intersection (R9). -/
theorem ZRange.find?_has (r h : ZRange) : (r.zonesFrom .down).find? h.has = Machine.clipRemoved h r := by
  cases r with
  | empty => rfl
  | run lo hi =>
    cases h with
    | empty => simp [ZRange.zonesFrom, ZRange.has, Machine.clipRemoved, ZRange.inter]
    | run hlo hhi =>
      simp only [ZRange.zonesFrom, Machine.clipRemoved, ZRange.inter]
      by_cases common : max lo hlo ≤ min hi hhi
      · rw [if_pos common, List.find?_range'_eq_some]
        refine ⟨by simp only [ZRange.has, Bool.and_eq_true, decide_eq_true_eq]; omega,
          by rw [List.mem_range'_1]; omega, fun j low before => ?_⟩
        simp only [ZRange.has, Bool.not_eq_true', Bool.and_eq_false_iff, decide_eq_false_iff_not]
        omega
      · rw [if_neg common, List.find?_range'_eq_none]
        intro z low high
        simp only [ZRange.has, Bool.not_eq_true', Bool.and_eq_false_iff, decide_eq_false_iff_not]
        omega

namespace Machine

theorem clip_empty_left (r occupied : ZRange) : clip .empty r occupied = r := by simp [clip]

theorem clip_empty_right (h occupied : ZRange) : clip h .empty occupied = .empty := by simp [clip]

theorem clip_of_disjoint {h r : ZRange} (occupied : ZRange) (apart : r.overlaps h = false) : clip h r occupied = r := by
  simp [clip, apart]

/-- Of a range that overlaps another, the parts below and above are left, one of them at most (R52). -/
theorem clip_of_overlap {lo hi alo ahi : Nat} (occupied : ZRange)
    (overlap : (ZRange.run alo ahi).overlaps (.run lo hi) = true) :
    clip (.run lo hi) (.run alo ahi) occupied =
      if alo < lo then
        if hi < ahi ∧ carriageAbove occupied (.run lo hi) = true then .run (hi + 1) ahi else .run alo (lo - 1)
      else if hi < ahi then .run (hi + 1) ahi else .empty := by
  unfold clip
  rw [if_pos overlap]
  unfold partBelow partAbove
  by_cases below : alo < lo <;> by_cases above : hi < ahi <;> simp [below, above]

/-! ### The events of a PRESENCE (R51, R52, R66) -/

theorem placeEvents_append (q : List Event) (es fs : List Event) :
    placeEvents q (es ++ fs) = placeEvents (placeEvents q es) fs := List.foldl_append

/-- The event of an entry that goes to PRESENT from a state (R51, R66). -/
def presentNews (x : Addr) : PeerState → List Event
  | .absent => [.peerJoined x]
  | .joining => [.peerJoined x]
  | .silent => [.peerBack x]
  | .present => []
  | .evicting => []

/-- The event of a clip that removes zones, the lowest of them named (R52). -/
def conflictNews (x : Addr) : Option Nat → List Event
  | some z => [.conflict x z]
  | none => []

section
variable {u : State} {x : Addr} {held occupied : ZRange} {mode : MotionState}

theorem State.events_presentEvent (u : State) (x : Addr) (old : PeerState) :
    (u.presentEvent x old).port.events = placeEvents u.port.events (presentNews x old) := by
  cases old <;> rfl

/-- What a PRESENCE writes in its sender's entry (R51, R52). -/
def State.announced (u : State) (x : Addr) (held occupied : ZRange) (mode : MotionState) : PeerEntry :=
  { u.entry x with held := clip u.resv.held held occupied, occupied := occupied, mode := mode }

/-- The part when the directory has written the entry and queued its events, before an intrusion is reported. -/
def State.informed (u : State) (x : Addr) (held occupied : ZRange) (mode : MotionState) : State :=
  let s2 := (u.setEntry x .present (u.announced x held occupied mode)).presentEvent x (u.standing x)
  match clipRemoved u.resv.held held with
  | some z => s2.queueEvent (.conflict x z)
  | none => s2

theorem State.dirPresence_eq (u : State) (x : Addr) (held occupied : ZRange) (mode : MotionState) :
    u.dirPresence x held occupied mode =
      (if occupied.overlaps u.resv.held then (u.informed x held occupied mode).reportFault (.intrusion x)
        else u.informed x held occupied mode).noticeChange u x := rfl

@[simp] theorem State.informed_reads (u : State) (x : Addr) (held occupied : ZRange) (mode : MotionState) :
    (u.informed x held occupied mode).dir = (u.setEntry x .present (u.announced x held occupied mode)).dir ∧
    (u.informed x held occupied mode).access = u.access ∧ (u.informed x held occupied mode).resv = u.resv ∧
    (u.informed x held occupied mode).memb = u.memb ∧ (u.informed x held occupied mode).motion = u.motion ∧
    (u.informed x held occupied mode).fault = u.fault := by
  unfold State.informed
  dsimp only
  split <;> simp

theorem State.events_informed (u : State) (x : Addr) (held occupied : ZRange) (mode : MotionState) :
    (u.informed x held occupied mode).port.events =
      placeEvents u.port.events (presentNews x (u.standing x) ++ conflictNews x (clipRemoved u.resv.held held)) := by
  unfold State.informed
  rw [placeEvents_append]
  dsimp only
  split
  next zone removed =>
    simp only [State.queueEvent, State.port_setPort, State.events_presentEvent, State.setEntry_keeps, removed]
    rfl
  next untouched =>
    simp only [State.events_presentEvent, State.setEntry_keeps, untouched]
    rfl

theorem State.dirTake_presence {s : State} (peer : s.isPeer x = true) :
    s.dirTake x (some (.presence held occupied mode)) = (s.touch x).dirPresence x held occupied mode := by
  simp [State.dirTake, peer]

/-! ### The intrusion (R53, R142, R167, R168) -/

theorem State.updateNeed_of_halted (halted : u.motion.state = .halted) :
    u.updateNeed = u.setMotion { u.motion with need := none } := by
  rw [State.updateNeed, State.computeNeed_of_halted halted, State.setNeed_none]

theorem State.rearm_orphanClaim (u : State) : u.orphanClaim.resv.rearm = u.resv.rearm := by
  unfold State.orphanClaim
  split
  · rfl
  · split <;> rfl

/-- A move ended by a fault reports its end and re-arms nothing (R134). -/
theorem State.endMove_of_halted (halted : u.motion.state = .halted) (reason : EndReason) :
    (u.endMove reason).port.events = placeEvent u.port.events (.moveEnded reason u.knownPosition) ∧
      (u.endMove reason).resv.rearm = u.resv.rearm := by
  unfold State.endMove
  simp only [Motion.stopStepping_reads, State.motion_setMotion, halted, reduceCtorEq, if_false]
  rw [State.updateNeed_of_halted (by simp)]
  simp [State.queueEvent, State.rearm_orphanClaim, State.knownPosition]

theorem State.endRelocate_reports (reason : EndReason) (after : MotionState) :
    (u.endRelocate reason after).port.events =
        placeEvents u.port.events (u.motion.reloc.toList.map fun r => .relocateEnded reason r.k) ∧
      (u.endRelocate reason after).resv.rearm = u.resv.rearm := by
  unfold State.endRelocate
  split
  next without => simp [without, placeEvents]
  next r record => simp [record, placeEvents, State.queueEvent, State.rearm_orphanClaim, State.setNeed_none]

/-- A fault that keeps the position ends what the engine is doing and re-arms nothing (R142). -/
theorem State.forceHalt_reports {cause : FaultCause} (keeps : cause.losesPosition = false) :
    (u.forceHalt cause).port.events = placeEvents u.port.events u.endedByFault ∧
      (u.forceHalt cause).resv.rearm = u.resv.rearm := by
  have halts (v : State) (state : v.motion.state = .halted) :
      v.updateNeed.port.events = v.port.events ∧ v.updateNeed.resv.rearm = v.resv.rearm := by
    rw [State.updateNeed_of_halted state]
    exact ⟨rfl, rfl⟩
  unfold State.forceHalt
  dsimp only
  split
  next state =>
    have state : u.motion.state = .moving := state
    refine ⟨(State.endMove_of_halted rfl .fault).1.trans ?_, (State.endMove_of_halted rfl .fault).2⟩
    simp [State.endedByFault, state, placeEvents, State.knownPosition, keeps]
  next state =>
    have state : u.motion.state = .stalled := state
    refine ⟨(State.endMove_of_halted rfl .fault).1.trans ?_, (State.endMove_of_halted rfl .fault).2⟩
    simp [State.endedByFault, state, placeEvents, State.knownPosition, keeps]
  next state =>
    have state : u.motion.state = .relocating := state
    refine ⟨(State.endRelocate_reports .fault .halted).1.trans ?_, (State.endRelocate_reports .fault .halted).2⟩
    simp [State.endedByFault, state]
  next state =>
    have state : u.motion.state = .idle := state
    exact ⟨(halts _ rfl).1.trans (by simp [State.endedByFault, state, placeEvents]), (halts _ rfl).2⟩
  next state =>
    have state : u.motion.state = .unplaced := state
    exact ⟨(halts _ rfl).1.trans (by simp [State.endedByFault, state, placeEvents]), (halts _ rfl).2⟩
  next state =>
    have state : u.motion.state = .halted := state
    simp [State.endedByFault, state, placeEvents]

/-- A carriage of a station that is not a reported intruder, inside H, latches an intrusion (R53, R142, R167). -/
theorem State.reportFault_new_intruder (new : x ∉ u.fault.intruders) :
    (u.reportFault (.intrusion x)).motion.state = .halted ∧
    (u.reportFault (.intrusion x)).fault = { u.fault with
      cause := some (u.fault.cause.getD .intrusion), further := u.fault.further || u.fault.cause.isSome
      intruders := u.fault.intruders ++ [x] } ∧
    (u.reportFault (.intrusion x)).port.events =
      placeEvents u.port.events (.fault .intrusion :: u.endedByFault) := by
  have taken : u.fault.take (.intrusion x) = some { u.fault with
      cause := some (u.fault.cause.getD .intrusion), further := u.fault.further || u.fault.cause.isSome
      intruders := u.fault.intruders ++ [x] } := by
    cases cause : u.fault.cause <;> simp [FaultUnit.take, addAddr, cause, new]
  have eq : u.reportFault (.intrusion x) = ((u.setFault { u.fault with
      cause := some (u.fault.cause.getD .intrusion), further := u.fault.further || u.fault.cause.isSome
      intruders := u.fault.intruders ++ [x] }).queueEvent (.fault .intrusion)).forceHalt .intrusion := by
    simp only [State.reportFault, taken, FaultReport.cause]
  rw [eq]
  refine ⟨(State.forceHalt_halts _ _).1, by simp, (State.forceHalt_reports rfl).1⟩

/-- A reported intruder is reported no more (R167). -/
theorem State.reportFault_known_intruder (law : LatchLaw u.fault) (known : x ∈ u.fault.intruders) :
    u.reportFault (.intrusion x) = u := by
  have absorbed : u.fault.take (.intrusion x) = none := by
    cases cause : u.fault.cause with
    | none => simp [(law.cleared cause).2] at known
    | some c => simp [FaultUnit.take, cause, known]
  simp only [State.reportFault, absorbed]

theorem State.rearm_reportFault_intrusion (u : State) (x : Addr) :
    (u.reportFault (.intrusion x)).resv.rearm = u.resv.rearm := by
  unfold State.reportFault
  split
  · rfl
  · exact (State.forceHalt_reports rfl).2

/-! ### The notice of a change (R63, R75) -/

theorem State.standing_of_free (free : u.evictionOf x = none) : u.standing x = (u.entry x).state := by
  unfold State.standing
  split
  · rfl
  next r pends =>
    refine if_neg fun ⟨target, evicting⟩ => ?_
    subst target
    simp [State.evictionOf_of_target pends evicting] at free

/-- A PRESENCE changes what the reservation unit is told of where the peer was not PRESENT or its held range differs. -/
theorem State.changed_by_presence {t : State} {e : PeerEntry} (dir : t.dir = (u.setEntry x .present e).dir) :
    (u.standing x ≠ t.standing x ∨ (u.entry x).state ≠ (t.entry x).state ∨ (u.entry x).held ≠ (t.entry x).held) ↔
      u.standing x ≠ .present ∨ (u.entry x).held ≠ e.held := by
  obtain ⟨free, eq⟩ | ⟨r, -, pends, target, evicting, eq⟩ := u.setEntry_spec x .present e
  · have entry : t.entry x = { e with state := .present } := by
      rw [State.entry_of_set (s := u) (by rw [dir, eq]; rfl), if_pos rfl]
    have stands : t.standing x = .present := by
      rw [State.standing_of_settled (by simp [entry]), entry]
    simp only [stands, entry, State.standing_of_free free]
    tauto
  · subst target
    have entry : t.entry r.target = { e with state := .evicting } := by
      rw [State.entry_of_set (s := u) (by rw [dir, eq]; rfl), if_pos rfl]
    have pends' : t.dir.eviction = some { r with returnState := .present } := by rw [dir, eq]; rfl
    have stands : t.standing r.target = .present := by
      simp [State.standing, pends', entry]
    simp [stands, entry, evicting]

theorem State.notice_of_watching (watches : u.resv.rearm.waiting = true ∧
    (u.resv.rearm.watched = [] ∨ x ∈ u.resv.rearm.watched)) : (u.notice x) = u.arm := by
  simp [State.notice, watches.1, watches.2]

theorem State.notice_of_not_watching (blind : ¬ (u.resv.rearm.waiting = true ∧
    (u.resv.rearm.watched = [] ∨ x ∈ u.resv.rearm.watched))) : u.notice x = u := by
  simpa [State.notice] using fun waits watches => absurd ⟨waits, watches⟩ blind

/-- What the notice of a change leaves of the reservation unit (R63, R75). -/
theorem State.noticeChange_rearms {t : State} {changed : Prop}
    (tells : (u.standing x ≠ t.standing x ∨ (u.entry x).state ≠ (t.entry x).state ∨ (u.entry x).held ≠ (t.entry x).held) ↔
      changed) :
    let rearms := changed ∧ t.resv.rearm.waiting = true ∧ (t.resv.rearm.watched = [] ∨ x ∈ t.resv.rearm.watched)
    (rearms → t.noticeChange u x = t.arm) ∧ (¬ rearms → t.noticeChange u x = t) := by
  unfold State.noticeChange
  refine ⟨fun ⟨change, watches⟩ => ?_, fun still => ?_⟩
  · rw [if_pos (tells.2 change), State.notice_of_watching watches]
  · split
    next told => exact State.notice_of_not_watching fun watches => still ⟨tells.1 told, watches⟩
    · rfl

theorem State.rearm_arm (u : State) : u.arm.resv.rearm = rearmArmed := by
  simp [State.arm]

/-- An armed unit with a need and no claim in flight forms one (R74, R75). -/
theorem State.claim_arm (need : u.motion.need.isSome = true) (free : u.claimInFlight = false)
    (joined : u.memb.state = .joined) : u.arm.resv.claim = some freshClaim := by
  have may : (u.setResv { u.resv with rearm := rearmArmed }).mayFormClaim = true := by
    simpa [State.mayFormClaim, State.claimInFlight, need, joined, rearmArmed] using free
  unfold State.arm State.formClaim
  rw [if_pos may]
  simp

/-! ### What a PRESENCE leaves (R51 to R53, R63) -/

theorem State.dirPresence_of_apart (apart : ¬ occupied.overlaps u.resv.held = true) :
    u.dirPresence x held occupied mode = (u.informed x held occupied mode).noticeChange u x := by
  rw [State.dirPresence_eq, if_neg apart]

theorem State.dirPresence_of_intrusion (intrudes : occupied.overlaps u.resv.held = true) :
    u.dirPresence x held occupied mode =
      ((u.informed x held occupied mode).reportFault (.intrusion x)).noticeChange u x := by
  rw [State.dirPresence_eq, if_pos intrudes]

theorem State.dir_dirPresence (u : State) (x : Addr) (held occupied : ZRange) (mode : MotionState) :
    (u.dirPresence x held occupied mode).dir = (u.setEntry x .present (u.announced x held occupied mode)).dir := by
  by_cases intrudes : occupied.overlaps u.resv.held = true
  · simp [State.dirPresence_of_intrusion intrudes]
  · simp [State.dirPresence_of_apart intrudes]

theorem State.dirPresence_of_settled (settled : (u.entry x).state ≠ .evicting) :
    (u.dirPresence x held occupied mode).entry x = { u.announced x held occupied mode with state := .present } ∧
      (u.dirPresence x held occupied mode).dir.eviction = u.dir.eviction := by
  have written := u.dir_dirPresence x held occupied mode
  rw [State.setEntry_of_settled settled] at written
  exact ⟨by rw [State.entry_of_set (s := u) (by rw [written]; rfl), if_pos rfl], by rw [written]; rfl⟩

theorem State.dirPresence_of_target {r : EvictionPending} (pends : u.dir.eviction = some r)
    (evicting : (u.entry r.target).state = .evicting) :
    (u.dirPresence r.target held occupied mode).entry r.target =
        { u.announced r.target held occupied mode with state := .evicting } ∧
      (u.dirPresence r.target held occupied mode).dir.eviction = some { r with returnState := .present } := by
  have written := u.dir_dirPresence r.target held occupied mode
  rw [State.setEntry_of_target pends evicting] at written
  exact ⟨by rw [State.entry_of_set (s := u) (by rw [written]; rfl), if_pos rfl], by rw [written]; rfl⟩

theorem State.dirPresence_other {a : Addr} (other : a ≠ x) :
    (u.dirPresence x held occupied mode).entry a = u.entry a := by
  have written := State.entry_setEntry_other (s := u) (st := .present) (e := u.announced x held occupied mode) other
  rw [← written]
  simp [State.entry, State.dir_dirPresence]

/-- The reservation unit is re-armed where it watches the peer, and only there (R63, R75). -/
theorem State.dirPresence_rearms (u : State) (x : Addr) (held occupied : ZRange) (mode : MotionState) :
    let changed := u.standing x ≠ .present ∨ (u.entry x).held ≠ clip u.resv.held held occupied
    let rearms := changed ∧ u.resv.rearm.waiting = true ∧ (u.resv.rearm.watched = [] ∨ x ∈ u.resv.rearm.watched)
    (rearms → (u.dirPresence x held occupied mode).resv.rearm = rearmArmed) ∧
    (¬ rearms → (u.dirPresence x held occupied mode).resv.rearm = u.resv.rearm) ∧
    (rearms → ¬ occupied.overlaps u.resv.held = true →
      u.dirPresence x held occupied mode = (u.informed x held occupied mode).arm) := by
  have notices (w : State) (dir : w.dir = (u.setEntry x .present (u.announced x held occupied mode)).dir)
      (rearm : w.resv.rearm = u.resv.rearm) := rearm ▸ State.noticeChange_rearms (State.changed_by_presence dir)
  by_cases intrudes : occupied.overlaps u.resv.held = true
  · rw [State.dirPresence_of_intrusion intrudes]
    have kept : ((u.informed x held occupied mode).reportFault (.intrusion x)).resv.rearm = u.resv.rearm := by
      simp [State.rearm_reportFault_intrusion]
    obtain ⟨arms, still⟩ := notices ((u.informed x held occupied mode).reportFault (.intrusion x)) (by simp) kept
    refine ⟨fun watches => by rw [arms watches, State.rearm_arm], fun blind => by rw [still blind, kept],
      fun _ apart => absurd intrudes apart⟩
  · rw [State.dirPresence_of_apart intrudes]
    obtain ⟨arms, still⟩ := notices (u.informed x held occupied mode) (by simp) (by simp)
    exact ⟨fun watches => by rw [arms watches, State.rearm_arm], fun blind => by rw [still blind]; simp,
      fun watches _ => arms watches⟩

theorem State.dirPresence_reports_apart (apart : ¬ occupied.overlaps u.resv.held = true) :
    (u.dirPresence x held occupied mode).fault = u.fault ∧ (u.dirPresence x held occupied mode).motion = u.motion ∧
    (u.dirPresence x held occupied mode).port.events =
      placeEvents u.port.events (presentNews x (u.standing x) ++ conflictNews x (clipRemoved u.resv.held held)) := by
  rw [State.dirPresence_of_apart apart]
  exact ⟨by simp, by simp, by simpa using u.events_informed x held occupied mode⟩

theorem State.dirPresence_reports_new (intrudes : occupied.overlaps u.resv.held = true) (new : x ∉ u.fault.intruders) :
    (u.dirPresence x held occupied mode).motion.state = .halted ∧
    (u.dirPresence x held occupied mode).fault = { u.fault with
      cause := some (u.fault.cause.getD .intrusion), further := u.fault.further || u.fault.cause.isSome
      intruders := u.fault.intruders ++ [x] } ∧
    (u.dirPresence x held occupied mode).port.events =
      placeEvents u.port.events ((presentNews x (u.standing x) ++ conflictNews x (clipRemoved u.resv.held held)) ++
        .fault .intrusion :: u.endedByFault) := by
  obtain ⟨halted, latch, events⟩ :=
    State.reportFault_new_intruder (u := u.informed x held occupied mode) (x := x) (by simpa using new)
  have ends : (u.informed x held occupied mode).endedByFault = u.endedByFault := by
    simp [State.endedByFault, State.knownPosition]
  rw [State.dirPresence_of_intrusion intrudes]
  refine ⟨by simpa using halted, by simpa using latch, ?_⟩
  rw [ends, State.events_informed, ← placeEvents_append] at events
  simpa using events

theorem State.dirPresence_reports_known (intrudes : occupied.overlaps u.resv.held = true) (law : LatchLaw u.fault)
    (known : x ∈ u.fault.intruders) :
    (u.dirPresence x held occupied mode).fault = u.fault ∧ (u.dirPresence x held occupied mode).motion = u.motion ∧
    (u.dirPresence x held occupied mode).port.events =
      placeEvents u.port.events (presentNews x (u.standing x) ++ conflictNews x (clipRemoved u.resv.held held)) := by
  have absorbed := State.reportFault_known_intruder (u := u.informed x held occupied mode) (x := x) (by simpa using law)
    (by simpa using known)
  rw [State.dirPresence_of_intrusion intrudes, absorbed]
  exact ⟨by simp, by simp, by simpa using u.events_informed x held occupied mode⟩

end

end Machine

open Machine

/-! ### The PRESENCE of a peer -/

/-- What the clip of an announced range leaves, against one that stands for H (R52). -/
theorem clip_leaves (lo hi alo ahi : Nat) (occupied : ZRange) (above : Prop)
    (carriage : carriageAbove occupied (.run lo hi) = true ↔ above) :
    let own := ZRange.run lo hi
    let told := ZRange.run alo ahi
    let clipped := clip own told occupied
    (told.overlaps own = false → clipped = told) ∧
    (told.overlaps own = true → lo ≤ alo → ahi ≤ hi → clipped = .empty) ∧
    (told.overlaps own = true → alo < lo → ahi ≤ hi → clipped = .run alo (lo - 1)) ∧
    (told.overlaps own = true → lo ≤ alo → hi < ahi → clipped = .run (hi + 1) ahi) ∧
    (told.overlaps own = true → alo < lo → hi < ahi → above → clipped = .run (hi + 1) ahi) ∧
    (told.overlaps own = true → alo < lo → hi < ahi → ¬ above → clipped = .run alo (lo - 1)) := by
  refine ⟨clip_of_disjoint occupied, fun common low high => ?_, fun common low high => ?_, fun common low high => ?_,
    fun common low high far => ?_, fun common low high near => ?_⟩ <;> rw [clip_of_overlap occupied common]
  · rw [if_neg (not_lt.2 low), if_neg (not_lt.2 high)]
  · rw [if_pos low, if_neg fun both => not_lt.2 high both.1]
  · rw [if_neg (not_lt.2 low), if_pos high]
  · rw [if_pos low, if_pos ⟨high, carriage.2 far⟩]
  · rw [if_pos low, if_neg fun both => near (carriage.1 both.2)]

/-- Settles O28: the directory takes the PRESENCE after it has set the sender's age to 0; the entry it writes, the events, the
intrusion and the notice to the reservation unit follow one another, and none of them undoes another's effect. -/
theorem presenceUpdatesTheSendersEntry : Obligations.PresenceUpdatesTheSendersEntry := by
  intro s s1 zone sender held occupied mode lo hi alo ahi own told clipped above
  refine ⟨⟨clip_empty_left _ _, clip_empty_right _ _, clip_leaves lo hi alo ahi occupied above ?_⟩, ?_⟩
  · cases occupied <;> simp [carriageAbove, above]
  intro burst unclosed h fields news intrudes rearms
  have peer := State.isPeer_of_burst burst
  refine ⟨_, congrArg Host.Outcome.next (State.onFrame_of_burst burst), ?_⟩
  rw [State.deliverValid_presence]
  obtain ⟨heard, counts⟩ := State.delivery_counts unclosed (some (.presence held occupied mode))
  refine ⟨counts, ?_⟩
  have received : (s1.received sender).isPeer sender = true := by rwa [State.isPeer_received]
  rw [heard, State.dirTake_presence received]
  obtain ⟨u, hu⟩ : ∃ u, u = (s1.received sender).touch sender := ⟨_, rfl⟩
  have resv : u.resv = s1.resv := by simp [hu]
  have motion : u.motion = s1.motion := by simp [hu]
  have fault : u.fault = s1.fault := by simp [hu]
  have port : u.port = s1.port := by simp [hu]
  have memb : u.memb = s1.memb := by simp [hu]
  have eviction : u.dir.eviction = s1.dir.eviction := by simp [hu]
  have stands : u.standing sender = s1.standing sender := by simp [hu, State.standing_touch received]
  have entry : u.entry sender = { s1.entry sender with age := 0 } := by simp [hu, State.entry_touch received]
  have others (a : Addr) (other : a ≠ sender) : u.entry a = s1.entry a := by
    simp [hu, State.entry_touch received, other]
  have ends : u.endedByFault = s1.endedByFault := by simp [State.endedByFault, State.knownPosition, motion]
  have told : presentNews sender (u.standing sender) ++ conflictNews sender (clipRemoved u.resv.held held) = news := by
    rw [stands, resv]
    simp only [news, ZRange.find?_has]
    rfl
  have announced : u.announced sender held occupied mode = fields := by
    simp [State.announced, entry, resv, fields, h]
  rw [← hu]
  obtain ⟨arms, still, armed⟩ := u.dirPresence_rearms sender held occupied mode
  rw [stands, entry, resv] at arms still armed
  refine ⟨rfl, by simp [resv, h], by simp [memb], fun a other => ?_, fun settled => ?_, fun r pends target evicting => ?_,
    fun apart => ?_, fun inside new => ?_, fun inside law known => ?_, arms, fun watches apart need free joined => ?_, still⟩
  · exact State.dirPresence_other other |>.trans (others a other)
  · have ⟨written, kept⟩ := State.dirPresence_of_settled (u := u) (x := sender) (held := held) (occupied := occupied)
      (mode := mode) (by rw [entry]; exact settled)
    exact ⟨written.trans (by rw [announced]), kept.trans eviction⟩
  · subst target
    have ⟨written, kept⟩ := State.dirPresence_of_target (u := u) (r := r) (held := held) (occupied := occupied)
      (mode := mode) (eviction.trans (by simpa using pends)) (by rw [entry]; exact evicting)
    exact ⟨written.trans (by rw [announced, ← evicting]), kept⟩
  · have reports := State.dirPresence_reports_apart (u := u) (x := sender) (held := held) (mode := mode)
      (by rw [resv]; exact apart)
    rwa [told, fault, motion, port] at reports
  · have reports := State.dirPresence_reports_new (u := u) (x := sender) (held := held) (mode := mode)
      (by rw [resv]; exact inside) (by rw [fault]; exact new)
    rwa [told, ends, fault, port] at reports
  · have reports := State.dirPresence_reports_known (u := u) (x := sender) (held := held) (mode := mode)
      (by rw [resv]; exact inside) (by rw [fault]; exact law) (by rw [fault]; exact known)
    rwa [told, fault, motion, port] at reports
  · have claim := State.claim_arm (u := u.informed sender held occupied mode) (by simpa [motion] using need)
      (by simpa [State.claimInFlight, resv] using free) (by simpa [memb] using joined)
    rw [← armed watches apart] at claim
    exact claim

end Sys2Proof

/-! PROOFS. The close of an EVICT window at a slot boundary: the directory's record, the order and the target's record are
resolved (R41, R62, R66, R114, R115). -/

namespace Sys2Proof.Machine

section
variable {s : State} {zone : Byte} {base o : Addr} {k : Nat} {kind : WindowKind}

/-! ### The boundary that closes a window (R32, R41, R43) -/

/-- The part at the boundary after slot k. -/
def State.atBoundary (s : State) (zone : Byte) (k : Nat) : State :=
  (s.withZone zone).advance ((s.withZone zone).access.busTimer.remaining ((2 + (k + 1)) * (s.withZone zone).c))

/-- The window closed COMPLETE and its answers withdrawn, before the close is reported (R41, R43). -/
def State.shutWindow (s : State) (o : Addr) (kind : WindowKind) : State :=
  s.setAccess
    { s.access with window := { s.access.window with isOpen := false, unheard := [], cause := some .complete },
                    queue := withdrawAnswers s.access.queue { originator := o, kind := kind } }

/-- The last address unheard is heard, and the window closes COMPLETE (R41). -/
theorem State.heard_of_last {a : Addr} (isOpen : s.access.window.isOpen = true)
    (originator : s.access.window.originator = some o) (named : s.access.window.kind = some kind)
    (unheard : s.access.window.unheard = [a]) : s.heard a = (s.shutWindow o kind).reportClose o kind .complete := by
  have alone : ([a].filter fun x => x != a) = [] := by simp
  simp only [State.heard, isOpen, unheard, List.contains_cons, List.contains_nil, BEq.rfl, Bool.true_or, Bool.and_true,
    if_true, alone, List.isEmpty_nil, State.closeWindow, State.access_setAccess, originator, named, State.shutWindow]
  rfl

theorem exec_slotBoundary_of_closes (closes : ClosesAtBoundary s base k o kind) :
    exec (.slotBoundary zone) s = .next
      (let u := ((s.atBoundary zone k).shutWindow o kind).reportClose o kind .complete
       u.setAccess { u.access with slot := some (k + 1) }) := by
  obtain ⟨phase, rotates, slot, follows, foreign, isOpen, originator, named, unheard⟩ := closes
  have passes : (s.atBoundary zone k).slotPasses base k =
      ((s.atBoundary zone k).shutWindow o kind).reportClose o kind .complete := by
    unfold State.slotPasses
    exact State.heard_of_last (by simpa [State.atBoundary] using isOpen) (by simpa [State.atBoundary] using originator)
      (by simpa [State.atBoundary] using named) (by simpa [State.atBoundary, slotOwner] using unheard)
  have cfg : (((s.atBoundary zone k).shutWindow o kind).reportClose o kind .complete).port.cfg = s.port.cfg := by
    simp [State.shutWindow, State.atBoundary]
  simp only [exec, execSlotBoundary, phase, rotates, slot]
  rw [← State.atBoundary, passes, if_pos (by rw [cfg]; exact follows)]
  unfold State.offerSlot
  rw [if_neg (by simpa [slotOwner, State.shutWindow, State.atBoundary] using foreign)]

/-! ### What the close of an EVICT window leaves (R62, R114, R115) -/

/-- The event of an eviction that the target did not object to (R62, R66). -/
def evictedNews (r : EvictionPending) : List Event :=
  if r.aliveHeard = true ∨ r.returnState = .absent then [] else [.peerEvicted r.target]

theorem State.entry_dirResolve {r : EvictionPending} (pends : s.dir.eviction = some r) (a : Addr) :
    (s.dirResolve .complete).entry a =
      if a = r.target then
        if r.aliveHeard = false then
          { s.entry r.target with state := .absent, held := .empty, occupied := .empty, mode := .unplaced }
        else { s.entry r.target with state := r.returnState }
      else s.entry a := by
  unfold State.dirResolve
  simp only [pends, true_and]
  split_ifs <;> simp_all [State.entry, getElem_set_addr]

theorem State.events_dirResolve {r : EvictionPending} (pends : s.dir.eviction = some r) :
    (s.dirResolve .complete).port.events = placeEvents s.port.events (evictedNews r) := by
  unfold State.dirResolve evictedNews
  simp only [pends, true_and]
  by_cases alive : r.aliveHeard = true
  · simp [alive, placeEvents]
  · by_cases absent : r.returnState = .absent <;> simp [alive, absent, placeEvents, State.queueEvent]

theorem State.concludeEvict_complete {x : EvictRecord} (ordered : s.memb.evict = some x) (waits : x.waiting = true) :
    (s.concludeEvict .complete).memb.evict = none ∧
    (s.concludeEvict .complete).port.events = placeEvent s.port.events
      (if x.aliveHeard then .evictFailed (.refused .alive) x.target else .evictDone x.target) := by
  simp [State.concludeEvict, ordered, waits, State.queueEvent]

/-- A target record resolved without a cut leaves the part as it was, but for the record and the PRESENCE (R115). -/
theorem State.resolveTarget_complete (s : State) :
    (s.resolveTarget .complete).resv = s.resv ∧ (s.resolveTarget .complete).motion = s.motion ∧
    (s.resolveTarget .complete).fault = s.fault ∧ (s.resolveTarget .complete).port = s.port ∧
    (s.resolveTarget .complete).dir = s.dir ∧ (s.resolveTarget .complete).memb.state = s.memb.state ∧
    (s.resolveTarget .complete).memb.evict = s.memb.evict ∧ (s.resolveTarget .complete).memb.target = none ∧
    ∀ y, s.memb.target = some y → y.sent = false → (s.resolveTarget .complete).memb.presenceDue = true := by
  unfold State.resolveTarget
  split
  next untargeted => exact ⟨rfl, rfl, rfl, rfl, rfl, rfl, rfl, untargeted, by simp [untargeted]⟩
  next y target =>
    dsimp only
    split
    next sent =>
      refine ⟨rfl, rfl, rfl, rfl, rfl, rfl, rfl, rfl, fun y' target' unsent => ?_⟩
      obtain rfl := Option.some.inj (target.symm.trans target')
      simp [sent] at unsent
    next => exact ⟨by simp, by simp, by simp, by simp, by simp, by simp, by simp, by simp, fun _ _ _ => by
      unfold State.makePresenceDue
      split
      next due => exact due
      next => simp⟩

/-- The close of an EVICT window, up to the record of the eviction that this station ordered (R62, R114). -/
def State.evictResolved (s : State) (o : Addr) : State :=
  if o = s.straps.address then (s.dirResolve .complete).concludeEvict .complete else s.dirResolve .complete

theorem State.reportClose_evict (s : State) (o : Addr) :
    s.reportClose o .evict .complete = (s.evictResolved o).resolveTarget .complete := by
  unfold State.evictResolved
  simp [State.reportClose]

@[simp] theorem State.evictResolved_reads (s : State) (o : Addr) :
    (s.evictResolved o).dir = (s.dirResolve .complete).dir ∧ (s.evictResolved o).resv.held = s.resv.held ∧
    (s.evictResolved o).motion = s.motion ∧ (s.evictResolved o).fault = s.fault ∧
    (s.evictResolved o).memb.state = s.memb.state ∧ (s.evictResolved o).memb.target = s.memb.target := by
  unfold State.evictResolved
  split <;> simp

@[simp] theorem State.atShut_reads (s : State) (zone : Byte) (k : Nat) (o : Addr) :
    ((s.atBoundary zone k).shutWindow o .evict).dir.eviction = s.dir.eviction ∧
    ((s.atBoundary zone k).shutWindow o .evict).memb.state = s.memb.state ∧
    ((s.atBoundary zone k).shutWindow o .evict).memb.evict = s.memb.evict ∧
    ((s.atBoundary zone k).shutWindow o .evict).memb.target = s.memb.target ∧
    ((s.atBoundary zone k).shutWindow o .evict).resv.held = s.resv.held ∧
    ((s.atBoundary zone k).shutWindow o .evict).port = s.port ∧
    ((s.atBoundary zone k).shutWindow o .evict).straps = s.straps ∧
    SameLatch s ((s.atBoundary zone k).shutWindow o .evict) ∧
    ((s.atBoundary zone k).shutWindow o .evict).motion.state = s.motion.state ∧
    ((s.atBoundary zone k).shutWindow o .evict).motion.p = s.motion.p ∧
    ((s.atBoundary zone k).shutWindow o .evict).motion.known = s.motion.known := by
  simp [State.shutWindow, State.atBoundary, SameLatch]

theorem State.entry_atShut (s : State) (zone : Byte) (k : Nat) (o a : Addr) :
    (((s.atBoundary zone k).shutWindow o .evict).entry a).state = (s.entry a).state ∧
    (((s.atBoundary zone k).shutWindow o .evict).entry a).held = (s.entry a).held ∧
    (((s.atBoundary zone k).shutWindow o .evict).entry a).occupied = (s.entry a).occupied :=
  State.entry_advance_reads (s := s.withZone zone) _ a

end

end Sys2Proof.Machine

namespace Sys2Proof
open Machine

/-- Settles O46: the boundary hears the last address and closes the window COMPLETE; the directory, the order of this station
and its record as a target are resolved in turn, and no frame begins since the next slot is another station's. -/
theorem evictionConcludesAtItsWindowsClose : Obligations.EvictionConcludesAtItsWindowsClose := by
  intro s zone base k o r x y closes e done
  refine ⟨_, exec_slotBoundary_of_closes closes, ?_⟩
  rw [State.reportClose_evict]
  obtain ⟨c, hc⟩ : ∃ c, c = (s.atBoundary zone k).shutWindow o .evict := ⟨_, rfl⟩
  obtain ⟨eviction, member, ordered, target, held, port, straps, latch, state, position, known⟩ :=
    hc ▸ s.atShut_reads zone k o
  have shut := hc ▸ s.entry_atShut zone k o
  rw [← hc]
  obtain ⟨resv', motion', fault', port', dir', member', evict', target', due⟩ := (c.evictResolved o).resolveTarget_complete
  have entry (a : Addr) : ((c.evictResolved o).resolveTarget .complete).entry a = (c.dirResolve .complete).entry a := by
    simp [State.entry]
  refine ⟨by simp [resv', held], by simp [member', member], by simpa [SameLatch, fault'] using latch, by simp [motion', state],
    by simp [motion', position], by simp [motion', known], fun pends => ?_, fun pends own evict waits => ?_,
    fun pends foreign => ?_, fun targeted => ⟨target', fun unsent => due y (by simp [target, targeted]) unsent⟩⟩
  · have resolved := State.entry_dirResolve (eviction.trans pends)
    obtain ⟨shutState, shutHeld, shutOccupied⟩ := shut r.target
    refine ⟨by simp [c.eviction_dirResolve], fun unopposed => ?_, fun alive => ?_, fun a other => ?_⟩
    · have written : ((c.evictResolved o).resolveTarget .complete).entry r.target = _ :=
        (entry _).trans ((resolved _).trans (by rw [if_pos rfl, if_pos unopposed]))
      exact ⟨congrArg PeerEntry.state written, congrArg PeerEntry.held written, congrArg PeerEntry.occupied written,
        congrArg PeerEntry.mode written⟩
    · have written : ((c.evictResolved o).resolveTarget .complete).entry r.target = _ :=
        (entry _).trans ((resolved _).trans (by rw [if_pos rfl, if_neg (by simp [alive])]))
      exact ⟨congrArg PeerEntry.state written, (congrArg PeerEntry.held written).trans shutHeld,
        (congrArg PeerEntry.occupied written).trans shutOccupied⟩
    · have written : ((c.evictResolved o).resolveTarget .complete).entry a = c.entry a :=
        (entry _).trans ((resolved _).trans (if_neg other))
      obtain ⟨state, held, -⟩ := shut a
      exact ⟨(congrArg PeerEntry.state written).trans state, (congrArg PeerEntry.held written).trans held⟩
  · have concluded := State.concludeEvict_complete (s := c.dirResolve .complete) (x := x) (by simp [ordered, evict]) waits
    have here : c.evictResolved o = (c.dirResolve .complete).concludeEvict .complete := by
      rw [State.evictResolved, if_pos (own.trans (by rw [straps]))]
    refine ⟨evict'.trans (by rw [here]; exact concluded.1), (congrArg Port.events port').trans ?_⟩
    rw [here, concluded.2, State.events_dirResolve (eviction.trans pends), port, placeEvents_append]
    rfl
  · have elsewhere : c.evictResolved o = c.dirResolve .complete := by
      rw [State.evictResolved, if_neg (by rw [straps]; exact foreign)]
    refine ⟨(congrArg Port.events port').trans ?_, evict'.trans (by simp [elsewhere, ordered])⟩
    rw [elsewhere, State.events_dirResolve (eviction.trans pends), port]
    rfl

end Sys2Proof

/-! PROOFS. The timers of the reservation unit and of the membership unit: what the operations of a claim put in the outgoing
queue, and what a handover in QUIET leaves of a join (R33, R74, R75, R99, R102, R111). -/

namespace Sys2Proof.Machine

section
variable {s t u : State}

/-! ### What the operations of a claim put in the outgoing queue (R37, R74) -/

/-- From s to t the outgoing queue has grown by CLAIM entries at most, and no claim has come to wait for its window's close. -/
structure AddsClaims (s t : State) : Prop where
  queue : ∃ n, t.access.queue = s.access.queue ++ List.replicate n claimEntry
  settled : s.claimWaiting = false → t.claimWaiting = false

theorem AddsClaims.of_same (queue : t.access.queue = s.access.queue) (claim : t.resv.claim = s.resv.claim) :
    AddsClaims s t :=
  ⟨⟨0, by simp [queue]⟩, by simp [State.claimWaiting, claim]⟩

/-- What leaves the queue and the claim as they were may go before. -/
theorem AddsClaims.after (h : AddsClaims t u) (queue : t.access.queue = s.access.queue) (claim : t.resv.claim = s.resv.claim) :
    AddsClaims s u := by
  obtain ⟨⟨n, later⟩, settled⟩ := h
  exact ⟨⟨n, queue ▸ later⟩, fun before => settled (by simpa [State.claimWaiting, claim] using before)⟩

theorem AddsClaims.trans (st : AddsClaims s t) (tu : AddsClaims t u) : AddsClaims s u := by
  obtain ⟨⟨n, first⟩, settled⟩ := st
  obtain ⟨⟨m, second⟩, settled'⟩ := tu
  exact ⟨⟨n + m, by rw [second, first, List.append_assoc, List.replicate_append_replicate]⟩, settled' ∘ settled⟩

/-- The entries of any other kind are those the queue had. -/
theorem AddsClaims.any (h : AddsClaims s t) {f : QEntry → Bool} (other : f claimEntry = false) :
    t.access.queue.any f = s.access.queue.any f := by
  obtain ⟨⟨n, queue⟩, -⟩ := h
  simp [queue, other]

/-- A CLAIM displaces nothing: it is added at the end or not queued (R37, R38). -/
theorem offerTo_claimEntry (q : List QEntry) : (offerTo q claimEntry).1 = q ∨ (offerTo q claimEntry).1 = q ++ [claimEntry] := by
  simp only [offerTo, claimEntry, takeOffer]
  split_ifs
  · exact .inl rfl
  · exact .inr rfl
  · exact .inl rfl
  next low => exact absurd (Nat.le_refl 2) low

theorem State.formClaim_adds (s : State) : AddsClaims s s.formClaim := by
  unfold State.formClaim
  split
  · refine ⟨?_, fun _ => by simp [State.claimWaiting, freshClaim]⟩
    rcases offerTo_claimEntry s.access.queue with same | longer
    · exact ⟨0, by simpa [State.offer] using same⟩
    · exact ⟨1, by simpa [State.offer] using longer⟩
  · exact .of_same rfl rfl

theorem State.arm_adds (s : State) : AddsClaims s s.arm :=
  (State.formClaim_adds _).after rfl rfl

theorem State.setNeed_adds (s : State) (new : Option Need) : AddsClaims s (s.setNeed new) := by
  unfold State.setNeed
  dsimp only
  split_ifs
  · exact (State.arm_adds _).after rfl rfl
  · exact (State.formClaim_adds _).after rfl rfl
  · exact .of_same rfl rfl

theorem State.updateNeed_adds (s : State) : AddsClaims s s.updateNeed := s.setNeed_adds _

theorem State.resumeSteps_keeps (s : State) : s.resumeSteps.access = s.access ∧ s.resumeSteps.resv = s.resv := by
  unfold State.resumeSteps
  split
  · split <;> simp
  · split
    · split <;> simp
    · simp
  all_goals simp

theorem State.onHeldChange_adds (s : State) : AddsClaims s s.onHeldChange := by
  obtain ⟨access, resv⟩ := s.resumeSteps_keeps
  rw [State.onHeldChange_eq]
  exact (State.updateNeed_adds _).after (by rw [access]) (by rw [resv])

theorem State.setHeld_adds (s : State) (h : ZRange) : AddsClaims s (s.setHeld h) := by
  unfold State.setHeld
  dsimp only
  split
  · exact .of_same rfl rfl
  · exact (State.onHeldChange_adds _).after rfl rfl

theorem State.orphanClaim_adds (s : State) : AddsClaims s s.orphanClaim := by
  refine ⟨⟨0, by simp⟩, fun settled => ?_⟩
  unfold State.orphanClaim
  split
  · exact settled
  next r claim =>
    split
    next waits => simp [State.claimWaiting, claim, waits] at settled
    next => exact settled

theorem State.endRelocate_adds (s : State) (reason : EndReason) (after : MotionState) :
    AddsClaims s (s.endRelocate reason after) := by
  unfold State.endRelocate
  split
  · exact .of_same rfl rfl
  · have freed : AddsClaims s ((s.setMotion s.motion.stopStepping).setNeed none) :=
      (State.setNeed_adds _ none).after rfl rfl
    exact (freed.trans (State.orphanClaim_adds _)).trans (.of_same rfl rfl)

theorem State.enterDirection_adds (s : State) (r : RelocRecord) : AddsClaims s (s.enterDirection r) := by
  unfold State.enterDirection
  split <;> exact (State.updateNeed_adds _).after rfl rfl

theorem State.relocateUp_adds (s : State) (r : RelocRecord) : AddsClaims s (s.relocateUp r) := by
  unfold State.relocateUp
  split
  · exact State.enterDirection_adds _ _
  · exact State.endRelocate_adds _ _ _

theorem State.onClaimFailed_adds (s : State) (side : Side) : AddsClaims s (s.onClaimFailed side) := by
  unfold State.onClaimFailed
  split
  · split
    · split
      · exact State.relocateUp_adds _ _
      · exact State.endRelocate_adds _ _ _
    · exact .of_same rfl rfl
  · exact .of_same rfl rfl

theorem State.claimFailed_adds (s : State) (reason : EventReason) (station : Option Addr) (zone : Nat)
    (watched : List Addr) (side : Side) : AddsClaims s (s.claimFailed reason station zone watched side) :=
  (State.onClaimFailed_adds _ side).after rfl rfl

theorem State.attemptFailed_adds (s : State) (reason : EventReason) (station : Option Addr) (zone : Nat)
    (watched : List Addr) (side : Side) : AddsClaims s (s.attemptFailed reason station zone watched side) := by
  unfold State.attemptFailed
  dsimp only
  split_ifs
  · exact State.claimFailed_adds _ _ _ _ _ _
  · exact .of_same rfl rfl
  · exact .of_same rfl rfl

/-- A handover that finds nothing to send brings no JOIN into the queue (R76, R77, R78). -/
theorem State.no_join_claimNotSent (none : s.access.queue.any QEntry.isJoin = false) (plan : ClaimPlan) :
    (s.claimNotSent plan).access.queue.any QEntry.isJoin = false := by
  have dropped : s.dropClaimEntry.access.queue.any QEntry.isJoin = false := by
    simp only [List.any_eq_false] at none ⊢
    exact fun e mem => none e (List.mem_of_mem_filter mem)
  have adds {t : State} (h : AddsClaims s.dropClaimEntry t) : t.access.queue.any QEntry.isJoin = false :=
    (h.any rfl).trans dropped
  have locally (side : Side) (outcome : ClaimOutcome) :
      ((s.dropClaimEntry.readNeedSide side).concludeLocally outcome).access.queue.any QEntry.isJoin = false := by
    simpa using dropped
  unfold State.claimNotSent
  cases plan with
  | lapsed => exact dropped
  | silent side a zone =>
    exact ((((State.claimFailed_adds _ _ _ _ _ _).trans (State.formClaim_adds _)).any rfl).trans (locally _ _))
  | held side zone =>
    exact ((((State.attemptFailed_adds _ _ _ _ _ _).trans (State.formClaim_adds _)).any rfl).trans (locally _ _))
  | send => exact dropped

/-! ### What a handover leaves of a join (R33, R103) -/

/-- A record of the same attempt of a join, with the same J and the same bounds. -/
def JoinRecord.SameAttempt (r q : JoinRecord) : Prop :=
  q.attempt = r.attempt ∧ q.occupied = r.occupied ∧ q.lowBound = r.lowBound ∧ q.highBound = r.highBound

theorem State.joinSent_sameAttempt {r : JoinRecord} (join : s.memb.join = some r) :
    ∃ q, s.joinSent.memb.join = some q ∧ r.SameAttempt q := by
  simp [State.joinSent, join, JoinRecord.SameAttempt]

/-- Where the queue holds no JOIN, a handover leaves the membership record as it was. -/
theorem State.memb_handoverLoop (none : s.access.queue.any QEntry.isJoin = false) (fuel : Nat) :
    (s.handoverLoop fuel).memb = s.memb := by
  induction fuel generalizing s with
  | zero => rfl
  | succ n ih =>
    simp only [State.handoverLoop]
    split
    next => rfl
    next e chosen =>
      have other : e.isJoin = false := by
        simpa using List.any_eq_false.1 none e (State.selected_mem chosen)
      split
      next => simp
      next =>
        split
        next => split <;> simp
        next plan _ => exact (ih (State.no_join_claimNotSent none _)).trans (by simp)
      next => simp [other]

/-- A handover of the JOIN makes its record wait, with the attempt it had (R103). -/
theorem State.join_handoverLoop {r : JoinRecord} (join : s.memb.join = some r) (fuel : Nat) :
    ∃ q, (s.handoverLoop fuel).memb.join = some q ∧ r.SameAttempt q := by
  have kept {t : State} (memb : t.memb = s.memb) : ∃ q, t.memb.join = some q ∧ r.SameAttempt q :=
    ⟨r, by rw [memb, join], rfl, rfl, rfl, rfl⟩
  induction fuel generalizing s with
  | zero => exact kept rfl
  | succ n ih =>
    simp only [State.handoverLoop]
    split
    next => exact kept rfl
    next e _ =>
      split
      next => exact kept (by simp)
      next =>
        split
        next => split <;> exact kept (by simp)
        next plan _ => exact ih (by simpa using join) fun memb => kept (memb.trans (by simp))
      next f _ =>
        split
        next => exact State.joinSent_sameAttempt (by simpa using join)
        next => exact kept (by simp)

/-- In QUIET the handover comes at once, if the station may send at all (R33). -/
theorem State.kick_cases (s : State) :
    s.kick = s ∨ (s.access.phase = .quiet ∧ s.kick = s.handoverLoop handoverRounds) := by
  unfold State.kick
  split
  next quiet =>
    unfold State.handover
    split
    next => exact .inl rfl
    next => exact .inl rfl
    all_goals exact .inr ⟨quiet, rfl⟩
  next => exact .inl rfl

theorem State.join_kick {r : JoinRecord} (join : s.memb.join = some r) :
    ∃ q, s.kick.memb.join = some q ∧ r.SameAttempt q := by
  obtain still | ⟨-, loops⟩ := s.kick_cases
  · exact ⟨r, by rw [still, join], rfl, rfl, rfl, rfl⟩
  · exact loops ▸ State.join_handoverLoop join handoverRounds

theorem State.memb_kick (none : s.access.phase ≠ .quiet ∨ s.access.queue.any QEntry.isJoin = false) :
    s.kick.memb = s.memb := by
  obtain still | ⟨quiet, loops⟩ := s.kick_cases
  · rw [still]
  · exact loops ▸ State.memb_handoverLoop (none.resolve_left (not_not_intro quiet)) handoverRounds

/-! ### What the expiry of a timer leaves (R75, R99, R102, R111) -/

/-- H, the latch and the zones of the directory are as they were, whatever time has passed. -/
def TimerFrame (s t : State) : Prop :=
  t.resv.held = s.resv.held ∧ SameLatch s t ∧
    ∀ a, (t.entry a).state = (s.entry a).state ∧ (t.entry a).held = (s.entry a).held

theorem State.timerFrame_advance (s : State) (d : Nat) : TimerFrame s (s.advance d) := by
  refine ⟨by simp, by simp [SameLatch], fun a => ?_⟩
  obtain ⟨state, held, -⟩ := State.entry_advance_reads (s := s) d a
  exact ⟨state, held⟩

theorem TimerFrame.congr (h : TimerFrame s u) (held : t.resv.held = u.resv.held) (fault : t.fault = u.fault)
    (dir : t.dir = u.dir) : TimerFrame s t := by
  obtain ⟨held', latch, entries⟩ := h
  exact ⟨held.trans held', by simpa [SameLatch, fault] using latch, by simpa [State.entry, dir] using entries⟩

/-- An attempt of a join begins by the zone read, and in QUIET a handover may follow (R33, R102). -/
theorem State.joinBegins_of_beginAttempt {zone : Byte} (pins : u.pins = (s.withZone zone).pins)
    (cfg : u.port.cfg = s.port.cfg) (access : u.access.queue = s.access.queue ∧ u.access.phase = s.access.phase) (n : Nat) :
    JoinBegins s zone n (u.beginAttempt n).kick := by
  obtain ⟨queue, phase⟩ := access
  have reading : u.reading = (s.withZone zone).reading := by simp [State.reading, pins, cfg]
  unfold JoinBegins
  split
  next k read =>
    have formed : u.beginAttempt n = (u.setMemb { u.memb with
        join := some (joinRecord .queued n (conservativeRange s.port.cfg k)), listenTimer := Timer.stopped }).offer
          (joinEntry n (conservativeRange s.port.cfg k)) := by
      simp [State.beginAttempt, reading, read, cfg]
    obtain ⟨r, join, attempt, occupied, low, high⟩ := State.join_kick (s := u.beginAttempt n)
      (r := joinRecord .queued n (conservativeRange s.port.cfg k)) (by simp [formed])
    refine ⟨⟨r, by simp [join], attempt, occupied, low, high⟩, by simp [formed, Timer.stopped], fun busy => ?_⟩
    rw [State.kick_of_not_quiet (by simpa [phase] using busy), formed]
    exact ⟨by simp [State.offer, queue, conservativeRange], by simp [conservativeRange]⟩
  next read =>
    have waits : u.beginAttempt n =
        u.setMemb { u.memb with join := some (joinRecord .reading n .empty), listenTimer := Timer.start } := by
      simp [State.beginAttempt, reading, read]
    refine ⟨fun alone => ?_, by simp [waits, Timer.start], fun busy => ?_⟩
    · rw [State.memb_kick (by simpa [waits, queue, phase] using alone), waits]
      rfl
    · rw [State.kick_of_not_quiet (by simpa [phase] using busy), waits]
      exact queue

theorem State.queue_arm (need : u.motion.need.isSome = true) (free : u.claimInFlight = false)
    (joined : u.memb.state = .joined) : u.arm.access.queue = (offerTo u.access.queue claimEntry).1 := by
  have may : (u.setResv { u.resv with rearm := rearmArmed }).mayFormClaim = true := by
    simpa [State.mayFormClaim, State.claimInFlight, need, joined, rearmArmed] using free
  unfold State.arm State.formClaim
  rw [if_pos may]
  simp [State.offer]

theorem State.makePresenceDue_offers (s : State) : s.makePresenceDue.memb.presenceDue = true ∧
    s.makePresenceDue.access.queue =
      if s.memb.presenceDue then s.access.queue else (offerTo s.access.queue presenceEntry).1 := by
  unfold State.makePresenceDue
  split
  next due => exact ⟨due, rfl⟩
  next => simp [State.offer]

/-- The part when the re-arm timer has reached P. -/
def State.atRearm (s : State) : State := s.advance (s.resv.rearm.timer.remaining s.presenceInterval)

/-- The part when the listen timer has reached 2 P, JOINING, before the first attempt begins. -/
def State.atListenEnd (s : State) (zone : Byte) : State :=
  ((s.withZone zone).advance (s.memb.listenTimer.remaining (2 * s.presenceInterval))).toJoining Timer.stopped

/-- The part when the timer of the phase READING has reached P. -/
def State.atReading (s : State) (zone : Byte) : State :=
  (s.withZone zone).advance (s.memb.listenTimer.remaining s.presenceInterval)

/-- The part when the presence timer has reached P and stopped there. -/
def State.atPresence (s : State) : State :=
  let u := s.advance (s.memb.presenceTimer.remaining s.presenceInterval)
  u.setMemb { u.memb with presenceTimer := ⟨false, s.presenceInterval⟩ }

theorem State.timerFrame_atRearm (s : State) : TimerFrame s s.atRearm := s.timerFrame_advance _

theorem State.timerFrame_atListenEnd (s : State) (zone : Byte) : TimerFrame s (s.atListenEnd zone) :=
  (s.withZone zone).timerFrame_advance _

theorem State.timerFrame_atReading (s : State) (zone : Byte) : TimerFrame s (s.atReading zone) :=
  (s.withZone zone).timerFrame_advance _

theorem State.timerFrame_atPresence (s : State) : TimerFrame s s.atPresence := s.timerFrame_advance _

theorem exec_rearmTimerExpiry_of_waiting (waits : s.resv.rearm.waiting = true) (runs : s.resv.rearm.timer.running = true) :
    exec .rearmTimerExpiry s = .next s.atRearm.arm.kick :=
  congrArg Host.Outcome.next (if_pos (by simp [waits, runs]))

theorem exec_listenTimerExpiry_of_listening {zone : Byte} (listening : s.memb.state = .listening)
    (runs : s.memb.listenTimer.running = true) :
    exec (.listenTimerExpiry zone) s = .next ((s.atListenEnd zone).beginAttempt 1).kick :=
  congrArg Host.Outcome.next (if_pos ⟨listening, runs⟩)

theorem exec_joinReadingRetry_of_reading {zone : Byte} {q : JoinRecord} (join : s.memb.join = some q)
    (reading : q.phase = .reading) (runs : s.memb.listenTimer.running = true) :
    exec (.joinReadingRetry zone) s = .next ((s.atReading zone).beginAttempt q.attempt).kick := by
  simp only [exec, execJoinReadingRetry, join, reading, runs, and_self, if_true]
  rfl

theorem exec_presenceTimerExpiry_of_joined (joined : s.memb.state = .joined) (runs : s.memb.presenceTimer.running = true) :
    exec .presenceTimerExpiry s = .next s.atPresence.makePresenceDue.kick :=
  congrArg Host.Outcome.next (if_pos ⟨joined, runs⟩)

end

end Sys2Proof.Machine

namespace Sys2Proof
open Machine

/-- Settles O48: time brings each timer to its limit, its unit acts, and in QUIET a handover follows, which leaves H, the
directory, the latch and the attempt of a join as they are. -/
theorem timersOfClaimsAndMembership : Obligations.TimersOfClaimsAndMembership := by
  intro s zone q frame
  refine ⟨fun waits runs => ⟨_, exec_rearmTimerExpiry_of_waiting waits runs, ?_, by simp [State.atRearm], fun busy => ?_⟩,
    fun listening runs => ⟨_, exec_listenTimerExpiry_of_listening listening runs, ?_, ?_, ?_⟩,
    fun join reading runs => ⟨_, exec_joinReadingRetry_of_reading join reading runs, ?_, by simp [State.atReading], ?_⟩,
    fun joined runs => ⟨_, exec_presenceTimerExpiry_of_joined joined runs, ?_, ?_, ?_, ?_, fun busy => ?_⟩⟩
  · exact s.timerFrame_atRearm.congr (by simp) (by simp) (by simp)
  · rw [State.kick_of_not_quiet (by simpa [State.atRearm] using busy)]
    refine ⟨State.rearm_arm _, fun need free joined => ?_⟩
    have free : s.atRearm.claimInFlight = false := by simpa [State.atRearm, State.claimInFlight] using free
    have need : s.atRearm.motion.need.isSome = true := by simpa [State.atRearm] using need
    have joined : s.atRearm.memb.state = .joined := by simpa [State.atRearm] using joined
    exact ⟨State.claim_arm need free joined, (State.queue_arm need free joined).trans (by simp [State.atRearm])⟩
  · exact (s.timerFrame_atListenEnd zone).congr (by simp) (by simp) (by simp)
  · simp [State.atListenEnd, State.toJoining]
  · exact State.joinBegins_of_beginAttempt (by simp [State.atListenEnd, State.toJoining])
      (by simp [State.atListenEnd, State.toJoining]) (by simp [State.atListenEnd, State.toJoining]) 1
  · exact (s.timerFrame_atReading zone).congr (by simp) (by simp) (by simp)
  · exact State.joinBegins_of_beginAttempt (by simp [State.atReading]) (by simp [State.atReading])
      (by simp [State.atReading]) q.attempt
  · exact s.timerFrame_atPresence.congr (by simp) (by simp) (by simp)
  · simpa [State.atPresence] using joined
  · simp [State.atPresence]
  · simpa using s.atPresence.makePresenceDue_offers.1
  · rw [State.kick_of_not_quiet (by simpa [State.atPresence] using busy)]
    simpa [State.atPresence] using s.atPresence.makePresenceDue_offers.2

end Sys2Proof

/-! PROOFS. The close of the window of this station's own claim: what the claim gains is added to H, what a peer holds is
clipped away, and what is refused or unanswered is released (R69, R71, R82 to R88, R130, R137, R138). -/

namespace Sys2Proof

/-- A range of the rail that adjoins H makes it longer (R8, R9). -/
theorem ZRange.span_ne_of_adjacent {g h : ZRange} {side : Side} {z : Nat} (ok : g.ok z = true)
    (adjacent : g.adjacent h side = true) : h.span g ≠ h := by
  cases g with
  | empty => cases h <;> simp [ZRange.adjacent] at adjacent
  | run lo hi =>
    cases h with
    | empty => simp [ZRange.adjacent] at adjacent
    | run hlo hhi =>
      rw [ZRange.run_ok] at ok
      cases side <;> simp [ZRange.adjacent] at adjacent <;> simp [ZRange.span] <;> omega

end Sys2Proof

namespace Sys2Proof.Machine

section
variable {s u v : State} {r : ClaimRecord} {side d : Side} {g q : ZRange} {a : Addr} {z : Nat} {y : RelocRecord}

/-! ### What a claim gains, and why it fails (R82) -/

/-- The claim gains a range: it is not refused, and the range is granted, or asked for without a neighbour. -/
def ClaimRecord.Gains (r : ClaimRecord) (g : ZRange) : Prop :=
  r.refusal = none ∧ (r.grant = some g ∨ (r.grant = none ∧ r.unopposed = true ∧ g = r.requested))

/-- The claim gains nothing: it is refused, or no neighbour has answered it. -/
def ClaimRecord.Fails (r : ClaimRecord) : Prop :=
  r.refusal.isSome = true ∨ (r.grant = none ∧ r.unopposed = false)

/-- Why a claim that gains nothing fails. -/
def ClaimRecord.failure (r : ClaimRecord) : EventReason :=
  match r.refusal with
  | some x => .refused x
  | none => .noAnswer

theorem ClaimRecord.retriesAtOnce_failure (waits : ¬ (r.failure = .noAnswer ∨ r.failure = .refused .overlap)) :
    r.failure.retriesAtOnce = false := by
  cases refusal : r.refusal with
  | none => simp [ClaimRecord.failure, refusal] at waits
  | some x =>
    simp only [ClaimRecord.failure, refusal, EventReason.refused.injEq, reduceCtorEq, false_or] at waits ⊢
    cases x with
    | overlap => exact absurd rfl waits
    | _ => rfl

theorem ClaimRecord.ok_of_gains {h : ZRange} (law : ClaimLaw z h r) (gains : r.Gains g) : g.ok z = true := by
  obtain ⟨-, granted | ⟨-, -, rfl⟩⟩ := gains
  · exact (law.grant g granted).2.1
  · exact law.requested.2.1

/-- What the outcome of a claim does to H and to the attempts (R82). -/
def State.takeOutcome (u : State) (r : ClaimRecord) (side : Side) : State :=
  match r.concludes with
  | .granted => u.addRange r side (r.grant.getD .empty)
  | .unopposed => u.addRange r side r.requested
  | .refused => u.disclaim r side (.refused (r.refusal.getD .held))
  | .noAnswer => u.disclaim r side .noAnswer
  | .inconclusive | .neighbourSilent | .held => u.disclaim r side .inconclusive

/-- A claim heard to the end takes its outcome, and a new one may be formed (R74, R82). -/
theorem State.concludeClaim_of_waiting (claim : s.resv.claim = some r) (waits : r.phase = .waiting)
    (heard : r.inconclusive = false) (on : r.side = some side) :
    s.concludeClaim false = ((s.markConcluded r r.concludes).takeOutcome r side).formClaim := by
  cases r
  subst waits heard on
  unfold State.concludeClaim
  rw [claim]
  rfl

theorem State.takeOutcome_of_gains (heard : r.inconclusive = false) (gains : r.Gains g) :
    u.takeOutcome r side = u.addRange r side g := by
  obtain ⟨unrefused, granted | ⟨ungranted, unopposed, rfl⟩⟩ := gains
  · have outcome : r.concludes = .granted := by simp [ClaimRecord.concludes, heard, unrefused, granted]
    simp [State.takeOutcome, outcome, granted]
  · have outcome : r.concludes = .unopposed := by simp [ClaimRecord.concludes, heard, unrefused, ungranted, unopposed]
    simp [State.takeOutcome, outcome]

theorem State.takeOutcome_of_fails (heard : r.inconclusive = false) (fails : r.Fails) :
    u.takeOutcome r side = u.disclaim r side r.failure := by
  cases refusal : r.refusal with
  | some x =>
    have outcome : r.concludes = .refused := by simp [ClaimRecord.concludes, heard, refusal]
    simp [State.takeOutcome, outcome, ClaimRecord.failure, refusal]
  | none =>
    obtain ⟨ungranted, opposed⟩ := fails.resolve_left (by simp [refusal])
    have outcome : r.concludes = .noAnswer := by simp [ClaimRecord.concludes, heard, refusal, ungranted, opposed]
    simp [State.takeOutcome, outcome, ClaimRecord.failure, refusal]

/-! ### A release of zones that H does not hold (R37, R71) -/

theorem offerTo_releaseEntry {es : List QEntry} (room : es.length ≤ 4) (r : ZRange) (side : Side) :
    (offerTo es (releaseEntry r side)).1.any (fun e => e.isReleaseOn side) = true := by
  simp only [offerTo, releaseEntry]
  split
  next queued =>
    obtain ⟨e, mem, on⟩ := List.any_eq_true.1 queued
    refine List.any_eq_true.2 ⟨e.mergeRelease r, List.mem_map.2 ⟨e, mem, if_pos on⟩, ?_⟩
    rw [(e.mergeRelease_groups r side).2.2, on]
  next =>
    unfold takeOffer
    rw [if_pos (Nat.lt_of_le_of_lt room (by decide))]
    simp [QEntry.isReleaseOn]

theorem State.release_offers (some : g ≠ .empty) (room : u.access.queue.length ≤ 4) (side : Side) :
    (u.release g side).access.queue.any (fun e => e.isReleaseOn side) = true := by
  have offered := offerTo_releaseEntry room g side
  unfold State.release
  rw [if_neg some]
  dsimp only
  split
  · simpa [State.offer] using offered
  · rw [(State.onHeldChange_adds _).any rfl]
    simpa [State.offer] using offered

theorem State.motion_release_apart (apart : u.resv.held.overlaps g = false) (side : Side) :
    (u.release g side).motion = u.motion := by
  unfold State.release
  rw [ZRange.remove_of_disjoint apart]
  split <;> simp

theorem State.settled_release (settled : u.claimWaiting = false) (g : ZRange) (side : Side) :
    (u.release g side).claimWaiting = false := by
  have offered : ((u.setResv { u.resv with held := u.resv.held.remove g }).offer (releaseEntry g side)).claimWaiting = false := by
    simpa [State.claimWaiting] using settled
  unfold State.release
  split
  · exact settled
  · dsimp only
    split
    · exact offered
    · exact (State.onHeldChange_adds _).settled offered

/-! ### The first zone of a range that a peer holds (R65, R83) -/

theorem State.taken_eq_holder (u : State) (z : Nat) : u.taken z = (u.holder z).isSome := by
  rw [Bool.eq_iff_iff, State.holder, List.find?_isSome, State.taken, List.any_eq_true]

theorem State.firstTaken_of_free (free : u.overlapping g = []) (fromEnd : Side) : u.firstTaken g fromEnd = none := by
  refine List.find?_eq_none.2 fun j mem => ?_
  have inside := ZRange.mem_zonesFrom.1 mem
  simp only [Bool.not_eq_true, State.taken_eq_false]
  intro a
  have apart : (u.extent a).overlaps g = false := by
    simpa using List.filter_eq_nil_iff.1 free a (by simp [allAddrs])
  cases he : u.extent a with
  | empty => rfl
  | run elo ehi =>
    cases g with
    | empty => simp [ZRange.has] at inside
    | run lo hi =>
      simp only [he, ZRange.run_overlaps_run] at apart
      simp only [ZRange.has, Bool.and_eq_true, decide_eq_true_eq, Bool.and_eq_false_iff, decide_eq_false_iff_not] at *
      omega

/-- The last element of a run of numbers that passes a test is found first from the end. -/
theorem find?_reverse_range'_eq_some {lo n : Nat} {p : Nat → Bool} (low : lo ≤ z) (high : z < lo + n) (found : p z = true)
    (rest : ∀ j, z < j → j < lo + n → p j = false) : (List.range' lo n).reverse.find? p = some z := by
  induction n with
  | zero => omega
  | succ n ih =>
    rw [List.range'_1_concat, List.reverse_append, List.reverse_singleton, List.singleton_append]
    by_cases last : z = lo + n
    · subst last
      exact List.find?_cons_of_pos found
    · rw [List.find?_cons_of_neg (by simp [rest (lo + n) (by omega) (by omega)])]
      exact ih (by omega) fun j hz hj => rest j hz (by omega)

/-- The zones of a range that a claim on a side passes before zone z hold no peer, and z does (R83). -/
structure FirstHeld (u : State) (side : Side) (lo hi z : Nat) (a : Addr) : Prop where
  low : lo ≤ z
  high : z ≤ hi
  holder : u.holder z = some a
  before : ∀ j, j ∈ List.range (hi + 1) →
    (match side with | .up => lo ≤ j ∧ j < z | .down => z < j) → u.holder j = none

theorem FirstHeld.firstTaken {lo hi : Nat} (first : FirstHeld u side lo hi z a) :
    u.firstTaken (.run lo hi) (nearEnd side) = some z := by
  obtain ⟨low, high, holder, before⟩ := first
  have held : u.taken z = true := by simp [State.taken_eq_holder, holder]
  cases side with
  | up =>
    refine List.find?_range'_eq_some.2 ⟨held, List.mem_range'_1.2 ⟨low, by omega⟩, fun j lower upper => ?_⟩
    simp [State.taken_eq_holder, before j (List.mem_range.2 (by omega)) ⟨lower, upper⟩]
  | down =>
    refine find?_reverse_range'_eq_some low (by omega) held fun j above upper => ?_
    simp [State.taken_eq_holder, before j (List.mem_range.2 (by omega)) above]

/-! ### What a claim gains is added to H (R83, R85) -/

theorem State.clipCandidate_of_free (free : u.overlapping g = []) (side : Side) : u.clipCandidate side g = (u, g) := by
  simp [State.clipCandidate, State.firstTaken_of_free free]

theorem State.addRange_of_free (free : u.overlapping g = []) (own : r.orphaned = false) (some : g ≠ .empty)
    (adjacent : g.adjacent u.resv.held side = true) :
    u.addRange r side g = (u.setHeld (u.resv.held.span g)).clearAttempts := by
  simp [State.addRange, State.clipCandidate_of_free free, own, some, adjacent]

theorem State.addRange_of_orphaned (free : u.overlapping g = []) (orphaned : r.orphaned = true) :
    u.addRange r side g = (u.release g side).clearAttempts := by
  simp [State.addRange, State.clipCandidate_of_free free, orphaned]

/-- The CONFLICT of a clip is reported, and the zones from the one that the peer holds on are released (R71, R83). -/
def State.afterConflict (u : State) (side : Side) (g : ZRange) (z : Nat) (a : Addr) : State :=
  (u.queueEvent (.conflict a z)).release (splitAt side g z).2 side

theorem State.clipCandidate_of_first (first : u.firstTaken g (nearEnd side) = some z) (holder : u.holder z = some a) :
    u.clipCandidate side g = (u.afterConflict side g z a, (splitAt side g z).1) := by
  simp [State.clipCandidate, State.afterConflict, first, holder]

theorem State.afterConflict_reads {lo hi : Nat} (apart : (ZRange.run lo hi).overlaps u.resv.held = false)
    (room : u.access.queue.length ≤ 4) (low : lo ≤ z) (high : z ≤ hi) :
    (u.afterConflict side (.run lo hi) z a).resv = u.resv ∧
    (u.afterConflict side (.run lo hi) z a).port.events = placeEvent u.port.events (.conflict a z) ∧
    (u.afterConflict side (.run lo hi) z a).access.queue.any (fun e => e.isReleaseOn side) = true := by
  have within : (ZRange.run lo hi).has z = true := by simp [ZRange.has, low, high]
  have rest : u.resv.held.overlaps (splitAt side (.run lo hi) z).2 = false :=
    (ZRange.overlaps_comm _ _).trans (ZRange.disjoint_of_inside (splitAt_snd_inside within) apart)
  have some : (splitAt side (.run lo hi) z).2 ≠ .empty := by cases side <;> simp [splitAt]
  refine ⟨(State.resv_release_apart (by simpa using rest)).trans (by simp), ?_,
    State.release_offers some (by simpa using room) side⟩
  simp [State.afterConflict, State.queueEvent]

theorem State.addRange_of_clip (first : u.firstTaken g (nearEnd side) = some z) (holder : u.holder z = some a)
    (own : r.orphaned = false) (some : (splitAt side g z).1 ≠ .empty)
    (adjacent : (splitAt side g z).1.adjacent (u.afterConflict side g z a).resv.held side = true) :
    u.addRange r side g = ((u.afterConflict side g z a).setHeld
      ((u.afterConflict side g z a).resv.held.span (splitAt side g z).1)).clearAttempts := by
  simp [State.addRange, State.clipCandidate_of_first first holder, own, some, adjacent]

theorem State.addRange_of_lost (first : u.firstTaken g (nearEnd side) = some z) (holder : u.holder z = some a)
    (own : r.orphaned = false) (none : (splitAt side g z).1 = .empty) :
    u.addRange r side g = (u.afterConflict side g z a).attemptFailed (.refused .held) r.addressee
      (firstAsked side r.requested) (watchedOf r.addressee r.refuser) side := by
  simp [State.addRange, State.clipCandidate_of_first first holder, own, none]

/-! ### What the growth of H sets going (R88, R130, R138) -/

theorem State.held_setHeld (u : State) (q : ZRange) : (u.setHeld q).resv.held = q := by
  unfold State.setHeld
  dsimp only
  split <;> simp

theorem State.setHeld_of_change (change : q ≠ u.resv.held) :
    u.setHeld q = (u.setResv { u.resv with held := q }).resumeSteps.updateNeed := if_neg change

/-- A stalled move goes on where its next step fits in H as it has become (R130). -/
theorem State.setHeld_resumes (stalled : u.motion.state = .stalled) (change : q ≠ u.resv.held)
    (fits : fitsIn u.port.cfg u.candidate q = true) :
    (u.setHeld q).motion.state = .moving ∧ (u.setHeld q).motion.stepTimer = ⟨true, 0⟩ ∧
      (u.setHeld q).motion.stallTimer = ⟨false, 0⟩ := by
  have fits : (u.setResv { u.resv with held := q }).stepFits = true := fits
  rw [State.setHeld_of_change change]
  simp [State.resumeSteps, stalled, fits, Timer.start, Timer.stopped]

/-- A stalled move stays so where its next step does not fit (R130). -/
theorem State.setHeld_stalls (stalled : u.motion.state = .stalled) (unfit : fitsIn u.port.cfg u.candidate q = false) :
    (u.setHeld q).motion.state = .stalled ∧ (u.setHeld q).motion.stallTimer = u.motion.stallTimer := by
  by_cases change : q = u.resv.held
  · simp [State.setHeld, change, stalled]
  · have unfit : (u.setResv { u.resv with held := q }).stepFits = false := unfit
    rw [State.setHeld_of_change change]
    simp [State.resumeSteps, stalled, unfit]

/-- A relocate that waits in CLAIMING steps where H has come to hold its range (R138). -/
theorem State.setHeld_steps (relocating : u.motion.state = .relocating) (record : u.motion.reloc = some y)
    (claiming : y.phase = .claiming) (change : q ≠ u.resv.held) (fits : relocFits u.port.cfg y q = true) :
    (u.setHeld q).motion.StepsOn y := by
  rw [State.setHeld_of_change change]
  simp [State.resumeSteps, relocating, record, claiming, fits, Motion.StepsOn, Timer.start, State.computeNeed, relocNeed]

theorem fitsIn_some {c : Config} {p : Nat} {h : ZRange} :
    fitsIn c (some p) h = true ↔ p ≤ (c.z - c.w) * c.s ∧ (bodyAt c p).inside h = true := by
  rw [fitsIn_iff]
  constructor
  · rintro ⟨_, o, ⟨⟩, occupied, inside⟩
    obtain ⟨legal, rfl⟩ := occupiedAt_eq_some occupied
    exact ⟨legal, inside⟩
  · rintro ⟨legal, inside⟩
    exact ⟨p, _, rfl, occupiedAt_of_legal legal, inside⟩

theorem State.candidate_of_direction {p : Nat} (direction : u.motion.direction = some d)
    (up : d = .up → p = u.motion.p + 1) (down : d = .down → p + 1 = u.motion.p) : u.candidate = some p := by
  cases d with
  | up => simp [State.candidate, direction, up rfl]
  | down => simp [State.candidate, direction, ← down rfl]

/-- A step that leads somewhere fits (R123). -/
theorem StepLeadsTo.fits {p : Nat} (leads : StepLeadsTo u d p) : fitsIn u.port.cfg u.candidate u.resv.held = true := by
  obtain ⟨direction, up, down, legal, inside⟩ := leads
  rw [State.candidate_of_direction direction up down]
  exact fitsIn_some.2 ⟨legal, inside⟩

/-- A step that leads nowhere does not fit; below position 0 there is no step DOWN (R2, R123). -/
theorem StepLeadsTo.unfit {p : Nat} (blocked : ¬ StepLeadsTo u d p) (direction : u.motion.direction = some d)
    (up : d = .up → p = u.motion.p + 1) (down : d = .down → p + 1 = u.motion.p ∨ (u.motion.p = 0 ∧ p = 0)) :
    fitsIn u.port.cfg u.candidate u.resv.held = false := by
  by_cases bottom : d = .down ∧ u.motion.p = 0
  · obtain ⟨rfl, zero⟩ := bottom
    simp [State.candidate, direction, zero, fitsIn]
  · have down' (on : d = .down) : p + 1 = u.motion.p := (down on).resolve_right fun zero => bottom ⟨on, zero.1⟩
    rw [State.candidate_of_direction direction up down']
    by_contra fits
    obtain ⟨legal, inside⟩ := fitsIn_some.1 (Bool.eq_true_of_not_eq_false fits)
    exact blocked ⟨direction, up, down', legal, inside⟩

/-! ### Failed attempts (R84 to R88, R137, R138, R141) -/

section
variable {reason : EventReason} {station : Option Addr} {zone : Nat} {watched : List Addr}

theorem State.attemptFailed_of_fewer (fewer : u.resv.attempt < 4) :
    (u.attemptFailed reason station zone watched side).resv.attempt = u.resv.attempt + 1 ∧
    (u.attemptFailed reason station zone watched side).port = u.port ∧
    (reason.retriesAtOnce = false → (u.attemptFailed reason station zone watched side).resv.rearm.waiting = true) := by
  unfold State.attemptFailed
  rw [if_neg (by omega)]
  dsimp only
  split
  next atOnce => exact ⟨rfl, rfl, by simp [atOnce]⟩
  next => exact ⟨rfl, rfl, fun _ => rfl⟩

/-- The fourth failure where no relocate is told of it (R86, R87). -/
theorem State.attemptFailed_of_fourth (fourth : u.resv.attempt = 4) (other : u.motion.state ≠ .relocating) :
    (u.attemptFailed reason station zone watched side).resv.attempt = 1 ∧
    (u.attemptFailed reason station zone watched side).resv.attemptSide = none ∧
    (u.attemptFailed reason station zone watched side).resv.rearm.waiting = true ∧
    (u.attemptFailed reason station zone watched side).port.events =
      placeEvent u.port.events (.claimFailed reason station zone) := by
  have untold (t : State) (motion : t.motion = u.motion) : t.onClaimFailed side = t := by
    unfold State.onClaimFailed
    split
    next relocating _ => exact absurd (motion ▸ relocating) other
    next => rfl
  unfold State.attemptFailed State.claimFailed
  rw [if_pos fourth]
  dsimp only
  rw [untold _ (by simp)]
  simp [State.queueEvent, State.waitRearm]

theorem relocFits_up {c : Config} {h : ZRange} (range : y.k + c.w + 1 < c.z) :
    relocFits c { y with side := .up } h = (ZRange.run y.k (y.k + c.w + 1)).inside h := by
  simp [relocFits, relocateRange, show y.k + c.w + 1 ≤ c.z - 1 by omega]

/-- A relocate that turns to UP steps where H holds the up range, and else claims the zone above it (R137). -/
theorem State.enterDirection_up (relocating : u.motion.state = .relocating) (held : u.resv.held ≠ .empty)
    (range : y.k + u.port.cfg.w + 1 < u.port.cfg.z) :
    let holdsUp := (ZRange.run y.k (y.k + u.port.cfg.w + 1)).inside u.resv.held
    (u.enterDirection { y with side := .up }).motion.reloc =
      some { y with side := .up, phase := if holdsUp then .stepping else .claiming } ∧
    (u.enterDirection { y with side := .up }).motion.need =
      if holdsUp then none else some { side := .up, lo := y.k + u.port.cfg.w + 1, hi := y.k + u.port.cfg.w + 1 } := by
  intro holdsUp
  have fits : relocFits u.port.cfg { y with side := .up } u.resv.held = holdsUp := relocFits_up range
  cases holds : holdsUp with
  | true =>
    obtain ⟨-, -, need, reloc⟩ := State.enterDirection_stepsOn relocating (fits.trans holds)
    simp [need, reloc]
  | false =>
    obtain ⟨-, -, need, reloc⟩ := State.enterDirection_waitsOn relocating held (fits.trans holds) rfl
    simp [need, reloc]

/-- A relocate that waits in CLAIMING is told by its direction (R138). -/
theorem State.onClaimFailed_of_side (relocating : u.motion.state = .relocating) (record : u.motion.reloc = some y)
    (claiming : y.phase = .claiming) (on : y.side = side) :
    u.onClaimFailed side = match side with
      | .down => u.relocateUp { y with downTried := true }
      | .up => u.endRelocate .blocked .unplaced := by
  unfold State.onClaimFailed
  simp only [relocating, record]
  rw [if_pos ⟨claiming, on⟩]
  cases side <;> rfl

/-- A relocate that cannot turn to UP ends BLOCKED (R137, R141). -/
theorem State.onClaimFailed_blocked (relocating : u.motion.state = .relocating) (record : u.motion.reloc = some y)
    (claiming : y.phase = .claiming) (stuck : y.side = .up ∨ u.port.cfg.z ≤ y.k + u.port.cfg.w + 1) :
    u.BlockedFrom y.k (u.onClaimFailed y.side) := by
  have ends : u.onClaimFailed y.side = u.endRelocate .blocked .unplaced := by
    cases on : y.side with
    | up => exact State.onClaimFailed_of_side relocating record claiming on
    | down =>
      have top := stuck.resolve_left (by simp [on])
      rw [State.onClaimFailed_of_side relocating record claiming on]
      exact if_neg (relocateRange_up_isSome.not.2 (Nat.not_lt.2 top))
  rw [ends]
  exact State.endRelocate_blockedFrom record

/-- A down relocate turns to UP where the rail has the range (R137). -/
theorem State.onClaimFailed_down (relocating : u.motion.state = .relocating) (record : u.motion.reloc = some y)
    (claiming : y.phase = .claiming) (on : y.side = .down) (range : y.k + u.port.cfg.w + 1 < u.port.cfg.z) :
    u.onClaimFailed y.side = u.enterDirection { y with downTried := true, side := .up } := by
  rw [on, State.onClaimFailed_of_side relocating record claiming on]
  exact if_pos (relocateRange_up_isSome.2 range)

/-- CLAIM_FAILED reaches a relocate that waits in CLAIMING (R87, R88, R138). -/
theorem State.claimFailed_turns (relocating : u.motion.state = .relocating) (record : u.motion.reloc = some y)
    (claiming : y.phase = .claiming) (held : u.resv.held ≠ .empty) :
    RelocateTurns u (u.claimFailed reason station zone watched y.side) y (.claimFailed reason station zone) := by
  let v := u.queueEvent (.claimFailed reason station zone)
  obtain ⟨w, hw⟩ : ∃ w, w = (v.setResv { v.resv with attempt := 1, attemptSide := none }).waitRearm watched := ⟨_, rfl⟩
  have told : u.claimFailed reason station zone watched y.side = w.onClaimFailed y.side := hw ▸ rfl
  have motion : w.motion = u.motion := by simp [hw, v]
  have held' : w.resv.held = u.resv.held := by simp [hw, v]
  have cfg : w.port.cfg = u.port.cfg := by simp [hw, v]
  have events : w.port.events = placeEvent u.port.events (.claimFailed reason station zone) := by
    simp [hw, v, State.queueEvent]
  rw [← motion] at relocating record
  rw [told]
  refine ⟨fun stuck => ?_, fun on range => ?_⟩
  · obtain ⟨state, reloc, need, ended⟩ := State.onClaimFailed_blocked relocating record claiming (cfg ▸ stuck)
    exact ⟨state, reloc, need, by rw [ended, events]; rfl⟩
  · have range : y.k + w.port.cfg.w + 1 < w.port.cfg.z := cfg ▸ range
    obtain ⟨reloc, need⟩ := State.enterDirection_up (y := { y with downTried := true }) relocating (by rwa [held']) range
    rw [State.onClaimFailed_down relocating record claiming on range]
    rw [held', cfg] at reloc need
    exact ⟨by simpa using relocating, reloc, need, by simpa using events⟩

theorem RelocateTurns.congr {t : State} {failed : Event} (h : RelocateTurns u v y failed) (cfg : u.port.cfg = s.port.cfg)
    (held : u.resv.held = s.resv.held) (events : u.port.events = s.port.events) (motion : t.motion = v.motion)
    (port : t.port = v.port) : RelocateTurns s t y failed := by
  unfold RelocateTurns at *
  rw [motion, port, ← cfg, ← held, ← events]
  exact h

end

/-! ### What the outcome of a claim leaves (R82 to R88) -/

/-- What a claim gains up to the first zone that a peer holds is added to H (R83, R85). -/
theorem State.addRange_clipped {lo hi : Nat} (own : r.orphaned = false) (room : u.access.queue.length ≤ 4)
    (apart : (ZRange.run lo hi).overlaps u.resv.held = false) (first : FirstHeld u side lo hi z a)
    (some : (splitAt side (.run lo hi) z).1 ≠ .empty)
    (adjacent : (splitAt side (.run lo hi) z).1.adjacent u.resv.held side = true) :
    let t := u.addRange r side (.run lo hi)
    t.resv.held = u.resv.held.span (splitAt side (.run lo hi) z).1 ∧ t.resv.attempt = 1 ∧ t.resv.attemptSide = none ∧
      t.access.queue.any (fun e => e.isReleaseOn side) = true ∧
      t.port.events = placeEvent u.port.events (.conflict a z) := by
  obtain ⟨resv, events, released⟩ := State.afterConflict_reads (side := side) (a := a) apart room first.low first.high
  rw [State.addRange_of_clip first.firstTaken first.holder own some (by rwa [resv]), resv]
  refine ⟨by simp [State.held_setHeld], rfl, rfl, ?_, by simpa using events⟩
  exact ((State.setHeld_adds _ _).any rfl).trans released

/-- A claim whose first zone a peer holds fails with HELD (R83, R86). -/
theorem State.addRange_lost {lo hi : Nat} (own : r.orphaned = false) (room : u.access.queue.length ≤ 4)
    (apart : (ZRange.run lo hi).overlaps u.resv.held = false) (first : FirstHeld u side lo hi z a)
    (none : (splitAt side (.run lo hi) z).1 = .empty) (fewer : u.resv.attempt < 4) :
    let t := u.addRange r side (.run lo hi)
    t.resv.held = u.resv.held ∧ t.resv.attempt = u.resv.attempt + 1 ∧ t.resv.rearm.waiting = true ∧
      t.access.queue.any (fun e => e.isReleaseOn side) = true ∧
      t.port.events = placeEvent u.port.events (.conflict a z) := by
  obtain ⟨resv, events, released⟩ := State.afterConflict_reads (side := side) (a := a) apart room first.low first.high
  rw [State.addRange_of_lost first.firstTaken first.holder own none]
  obtain ⟨attempt, port, waiting⟩ := State.attemptFailed_of_fewer
    (u := u.afterConflict side (.run lo hi) z a) (reason := .refused .held) (station := r.addressee)
    (zone := firstAsked side r.requested) (watched := watchedOf r.addressee r.refuser) (side := side) (by rwa [resv])
  refine ⟨by simp [resv], by rw [attempt, resv], waiting rfl, ?_, by rw [port, events]⟩
  rw [(State.attemptFailed_adds _ _ _ _ _ _).any rfl]
  exact released

section
variable {reason : EventReason}

theorem State.disclaim_of_own (own : r.orphaned = false) :
    u.disclaim r side reason = (u.release r.requested side).attemptFailed reason r.addressee
      (firstAsked side r.requested) (watchedOf r.addressee r.refuser) side := by
  simp [State.disclaim, own]

theorem State.disclaim_adds (u : State) (r : ClaimRecord) (side : Side) (reason : EventReason) :
    AddsClaims (u.release r.requested side) (u.disclaim r side reason) := by
  unfold State.disclaim
  dsimp only
  split
  · exact .of_same rfl rfl
  · exact State.attemptFailed_adds _ _ _ _ _ _

variable (apart : u.resv.held.overlaps r.requested = false)
include apart

theorem State.disclaim_releases (room : u.access.queue.length ≤ 4) (some : r.requested ≠ .empty) :
    (u.disclaim r side reason).resv.held = u.resv.held ∧
      (u.disclaim r side reason).access.queue.any (fun e => e.isReleaseOn side) = true := by
  constructor
  · unfold State.disclaim
    dsimp only
    split <;> simp [State.resv_release_apart apart]
  · rw [(State.disclaim_adds u r side reason).any rfl]
    exact State.release_offers some room side

theorem State.disclaim_of_fewer (own : r.orphaned = false) (fewer : u.resv.attempt < 4) :
    (u.disclaim r side reason).resv.attempt = u.resv.attempt + 1 ∧
    (u.disclaim r side reason).port = u.port ∧
    (reason.retriesAtOnce = false → (u.disclaim r side reason).resv.rearm.waiting = true) := by
  have resv : (u.release r.requested side).resv = u.resv := State.resv_release_apart apart
  rw [State.disclaim_of_own own]
  simpa [resv] using State.attemptFailed_of_fewer (u := u.release r.requested side) (reason := reason)
    (station := r.addressee) (zone := firstAsked side r.requested) (watched := watchedOf r.addressee r.refuser)
    (side := side) (by rwa [resv])

theorem State.disclaim_of_fourth (own : r.orphaned = false) (fourth : u.resv.attempt = 4)
    (other : u.motion.state ≠ .relocating) :
    (u.disclaim r side reason).resv.attempt = 1 ∧ (u.disclaim r side reason).resv.attemptSide = none ∧
    (u.disclaim r side reason).resv.rearm.waiting = true ∧
    (u.disclaim r side reason).port.events =
      placeEvent u.port.events (.claimFailed reason r.addressee (firstAsked side r.requested)) := by
  have resv : (u.release r.requested side).resv = u.resv := State.resv_release_apart apart
  have motion : (u.release r.requested side).motion = u.motion := State.motion_release_apart apart side
  rw [State.disclaim_of_own own]
  simpa using State.attemptFailed_of_fourth (u := u.release r.requested side) (reason := reason)
    (station := r.addressee) (zone := firstAsked side r.requested) (watched := watchedOf r.addressee r.refuser)
    (side := side) (by rwa [resv]) (by rwa [motion])

theorem State.disclaim_turns (own : r.orphaned = false) (fourth : u.resv.attempt = 4)
    (relocating : u.motion.state = .relocating) (record : u.motion.reloc = some y) (claiming : y.phase = .claiming)
    (on : y.side = side) (held : u.resv.held ≠ .empty) :
    RelocateTurns u (u.disclaim r side reason) y (.claimFailed reason r.addressee (firstAsked side r.requested)) := by
  subst on
  have resv : (u.release r.requested y.side).resv = u.resv := State.resv_release_apart apart
  have motion : (u.release r.requested y.side).motion = u.motion := State.motion_release_apart apart y.side
  rw [State.disclaim_of_own own, State.attemptFailed, if_pos (by rwa [resv])]
  exact (State.claimFailed_turns (by rwa [motion]) (by rwa [motion]) claiming (by rwa [resv])).congr
    (by simp) (by rw [resv]) (by simp) rfl rfl

end

theorem State.settled_clipCandidate (settled : u.claimWaiting = false) (side : Side) (g : ZRange) :
    (u.clipCandidate side g).1.claimWaiting = false := by
  unfold State.clipCandidate
  split
  · exact settled
  · dsimp only
    split
    · exact State.settled_release (by simpa [State.claimWaiting] using settled) _ _
    · exact State.settled_release settled _ _

theorem State.settled_addRange (settled : u.claimWaiting = false) (r : ClaimRecord) (side : Side) (g : ZRange) :
    (u.addRange r side g).claimWaiting = false := by
  have clipped := State.settled_clipCandidate settled side g
  have cleared {t : State} (h : t.claimWaiting = false) : t.clearAttempts.claimWaiting = false := by
    simpa [State.claimWaiting] using h
  unfold State.addRange
  dsimp only
  split_ifs
  · exact cleared (State.settled_release clipped _ _)
  · exact (State.attemptFailed_adds _ _ _ _ _ _).settled clipped
  · exact cleared ((State.setHeld_adds _ _).settled clipped)
  · exact cleared (State.settled_release clipped _ _)

theorem State.settled_takeOutcome (settled : u.claimWaiting = false) (r : ClaimRecord) (side : Side) :
    (u.takeOutcome r side).claimWaiting = false := by
  have disclaimed (reason : EventReason) : (u.disclaim r side reason).claimWaiting = false :=
    (u.disclaim_adds r side reason).settled (State.settled_release settled _ _)
  unfold State.takeOutcome
  split
  · exact State.settled_addRange settled _ _ _
  · exact State.settled_addRange settled _ _ _
  all_goals exact disclaimed _

@[simp] theorem State.takeOutcome_keeps (u : State) (r : ClaimRecord) (side : Side) :
    (u.takeOutcome r side).dir = u.dir ∧ (u.takeOutcome r side).memb = u.memb ∧
    (u.takeOutcome r side).access.ownWindow = u.access.ownWindow := by
  unfold State.takeOutcome
  split <;> simp

/-! ### The close of the window of this station's claim (R41, R80, R82) -/

/-- The claim is concluded at the close of its window, and its outcome has yet to take effect (R82). -/
def State.atConclusion (s : State) (zone : Byte) (k : Nat) (r : ClaimRecord) : State :=
  ((s.atBoundary zone k).shutWindow s.straps.address .claim).markConcluded r r.concludes

/-- After the outcome of a claim a new one is formed if it may be, and the next slot has begun (R32, R74). -/
def State.nextClaim (u : State) (k : Nat) : State :=
  u.formClaim.setAccess { u.formClaim.access with slot := some (k + 1) }

@[simp] theorem State.nextClaim_reads (u : State) (k : Nat) :
    (u.nextClaim k).resv.held = u.resv.held ∧ (u.nextClaim k).resv.attempt = u.resv.attempt ∧
    (u.nextClaim k).resv.attemptSide = u.resv.attemptSide ∧ (u.nextClaim k).resv.rearm = u.resv.rearm ∧
    (u.nextClaim k).motion = u.motion ∧ (u.nextClaim k).port = u.port ∧ (u.nextClaim k).dir = u.dir ∧
    (u.nextClaim k).memb = u.memb ∧ (u.nextClaim k).access.ownWindow = u.access.ownWindow := by
  simp [State.nextClaim]

theorem State.nextClaim_adds (u : State) (k : Nat) : AddsClaims u (u.nextClaim k) :=
  u.formClaim_adds.trans (.of_same rfl rfl)

@[simp] theorem State.released_nextClaim (u : State) (k : Nat) (side : Side) :
    (u.nextClaim k).access.queue.any (fun e => e.isReleaseOn side) =
      u.access.queue.any (fun e => e.isReleaseOn side) := (u.nextClaim_adds k).any rfl

theorem exec_slotBoundary_of_claim {zone : Byte} {base : Addr} {k : Nat}
    (closes : ClosesAtBoundary s base k s.straps.address .claim) (claim : s.resv.claim = some r)
    (waits : r.phase = .waiting) (heard : r.inconclusive = false) (on : r.side = some side) :
    exec (.slotBoundary zone) s = .next (((s.atConclusion zone k r).takeOutcome r side).nextClaim k) := by
  have own : s.straps.address = ((s.atBoundary zone k).shutWindow s.straps.address .claim).straps.address := by
    simp [State.shutWindow, State.atBoundary]
  have claim' : ((s.atBoundary zone k).shutWindow s.straps.address .claim).resv.claim = some r := by
    simpa [State.shutWindow, State.atBoundary] using claim
  have concludes : ((s.atBoundary zone k).shutWindow s.straps.address .claim).reportClose s.straps.address .claim .complete =
      ((s.atConclusion zone k r).takeOutcome r side).formClaim :=
    (if_pos own).trans (State.concludeClaim_of_waiting claim' waits heard on)
  rw [exec_slotBoundary_of_closes closes, concludes]
  rfl

/-- What the part m, at which a claim is concluded, has kept of the part s before the boundary. -/
structure AtConclusion (s m : State) : Prop where
  held : m.resv.held = s.resv.held
  attempt : m.resv.attempt = s.resv.attempt
  port : m.port = s.port
  state : m.motion.state = s.motion.state
  reloc : m.motion.reloc = s.motion.reloc
  candidate : m.candidate = s.candidate
  stallRuns : m.motion.stallTimer.running = s.motion.stallTimer.running
  eviction : m.dir.eviction = s.dir.eviction
  member : m.memb.state = s.memb.state
  overlapping : ∀ g, m.overlapping g = s.overlapping g
  holder : ∀ z, m.holder z = s.holder z
  room : m.access.queue.length ≤ s.access.queue.length
  ownWindow : m.access.ownWindow = false
  settled : m.claimWaiting = false

theorem State.atConclusion_reads (s : State) (zone : Byte) (k : Nat) (r : ClaimRecord) :
    AtConclusion s (s.atConclusion zone k r) := by
  have extent (a : Addr) : (s.atConclusion zone k r).extent a = s.extent a := by
    obtain ⟨state, held, occupied⟩ := State.entry_advance_reads (s := s.withZone zone)
      ((s.withZone zone).access.busTimer.remaining ((2 + (k + 1)) * (s.withZone zone).c)) a
    have entry : (s.atConclusion zone k r).entry a = (s.atBoundary zone k).entry a := by
      simp [State.entry, State.atConclusion, State.shutWindow]
    rw [State.extent, entry, State.atBoundary, PeerEntry.extent, state, held, occupied]
    rfl
  exact
    { held := by simp [State.atConclusion, State.shutWindow, State.atBoundary]
      attempt := by simp [State.atConclusion, State.markConcluded, State.shutWindow, State.atBoundary]
      port := by simp [State.atConclusion, State.shutWindow, State.atBoundary]
      state := by simp [State.atConclusion, State.shutWindow, State.atBoundary]
      reloc := by simp [State.atConclusion, State.shutWindow, State.atBoundary]
      candidate := by simp [State.candidate, State.atConclusion, State.shutWindow, State.atBoundary]
      stallRuns := Timer.running_advance _ _
      eviction := by simp [State.atConclusion, State.shutWindow, State.atBoundary]
      member := by simp [State.atConclusion, State.shutWindow, State.atBoundary]
      overlapping := fun g => by simp [State.overlapping, extent]
      holder := fun z => by simp [State.holder, extent]
      room := by
        have fewer := List.length_filter_le (fun e : QEntry => e.answers != some ⟨s.straps.address, .claim⟩) s.access.queue
        simpa [State.atConclusion, State.shutWindow, State.atBoundary, withdrawAnswers] using fewer
      ownWindow := rfl
      settled := rfl }

end

end Sys2Proof.Machine

namespace Sys2Proof
open Machine

/-- Settles O44: the boundary hears the last address and closes the window COMPLETE, which concludes the claim; what it gains is
added to H up to the first zone that a peer holds, and what it does not gain is released. -/
theorem claimConcludesAtItsWindowsClose : Obligations.ClaimConcludesAtItsWindowsClose := by
  intro s zone base k r side d g rr a q z lo hi y closes claim waits heard on room h c gains fails reason atOnce first
    grows grown lawful claiming clips before
  have m := s.atConclusion_reads zone k r
  refine ⟨_, exec_slotBoundary_of_claim closes claim waits heard on, ?_⟩
  generalize s.atConclusion zone k r = u at m
  have room : u.access.queue.length ≤ 4 := m.room.trans room
  have gained (gain : gains) : u.takeOutcome r side = u.addRange r side g := State.takeOutcome_of_gains heard gain
  have failed (fail : fails) : u.takeOutcome r side = u.disclaim r side reason := State.takeOutcome_of_fails heard fail
  have asked : firstAsked side r.requested = first := by
    dsimp only [first]
    cases side <;> cases r.requested <;> rfl
  have grew (grow : grows) : u.takeOutcome r side = (u.setHeld (h.span g)).clearAttempts := by
    obtain ⟨gain, own, some, free, adjacent⟩ := grow
    rw [gained gain, State.addRange_of_free ((m.overlapping g).trans free) own some (by rw [m.held]; exact adjacent), m.held]
  have changed (law : lawful) (grow : grows) : h.span g ≠ u.resv.held := by
    rw [m.held]
    exact ZRange.span_ne_of_adjacent (ClaimRecord.ok_of_gains law grow.1) grow.2.2.2.2
  have clipped (clip : clips) : u.takeOutcome r side = u.addRange r side (.run lo hi) ∧ r.orphaned = false ∧
      (ZRange.run lo hi).overlaps u.resv.held = false ∧ FirstHeld u side lo hi z a := by
    obtain ⟨gain, own, rfl, apart, low, high, holder, free⟩ := clip
    exact ⟨gained gain, own, by rw [m.held]; exact apart,
      low, high, (m.holder z).trans holder, fun j mem pass => (m.holder j).trans (free j mem pass)⟩
  have split : before = (splitAt side (.run lo hi) z).1 := by cases side <;> rfl
  have outside (apart : r.requested.overlaps h = false) : u.resv.held.overlaps r.requested = false := by
    rw [m.held, ZRange.overlaps_comm]
    exact apart
  refine ⟨by simp [m.ownWindow], (State.nextClaim_adds _ k).settled (State.settled_takeOutcome m.settled r side),
    by simp [m.eviction], by simp [m.member], fun gain own some free adjacent => ?_, fun law grow stalled leads => ?_,
    fun grow stalled direction blocked up down => ?_, fun law grow claims range inside => ?_,
    fun clip some adjacent => ?_, fun clip none fewer => ?_, fun gain orphaned some free apart => ?_,
    fun fail some apart => ?_, fun fail some apart own fewer => ?_, fun fail some apart own fourth other => ?_,
    fun fail some apart own fourth claims onSide held => ?_⟩
  · rw [grew ⟨gain, own, some, free, adjacent⟩]
    exact ⟨by simp [State.held_setHeld, h], by simp [State.clearAttempts], by simp [State.clearAttempts], by simp [m.port]⟩
  · obtain ⟨state, step, stall⟩ := State.setHeld_resumes (m.state.trans stalled) (changed law grow)
      (by rw [m.port, m.candidate]; exact leads.fits)
    rw [grew grow]
    exact ⟨by simp [state], by simp [step], by simp [stall]⟩
  · obtain ⟨state, stall⟩ := State.setHeld_stalls (q := h.span g) (m.state.trans stalled)
      (by rw [m.port, m.candidate]; exact StepLeadsTo.unfit blocked direction up down)
    rw [grew grow]
    exact ⟨by simp [state], by simp [stall, m.stallRuns]⟩
  · obtain ⟨relocating, record, phase⟩ := claims
    have fits : relocFits u.port.cfg y (h.span g) = true := by
      rw [m.port, relocFits, range]
      exact inside
    obtain ⟨state, step, need, reloc⟩ := State.setHeld_steps (m.state.trans relocating) (m.reloc.trans record) phase
      (changed law grow) fits
    rw [grew grow]
    exact ⟨by simp [state], by simp [reloc], by simp [step], by simp [need]⟩
  · obtain ⟨outcome, own, apart, held⟩ := clipped clip
    rw [split] at some adjacent ⊢
    rw [outcome]
    simpa [m.held, m.port] using State.addRange_clipped own room apart held some (by rw [m.held]; exact adjacent)
  · obtain ⟨outcome, own, apart, held⟩ := clipped clip
    rw [outcome]
    simpa [m.held, m.port, m.attempt] using
      State.addRange_lost own room apart held (split ▸ none) (by rw [m.attempt]; exact fewer)
  · have apart : u.resv.held.overlaps g = false := by
      rw [m.held, ZRange.overlaps_comm]
      exact apart
    rw [gained gain, State.addRange_of_orphaned ((m.overlapping g).trans free) orphaned]
    exact ⟨by simp [State.resv_release_apart apart, m.held, h], by simpa using State.release_offers some room side,
      by simp [State.clearAttempts], by simp [m.port]⟩
  · obtain ⟨held, released⟩ := State.disclaim_releases (reason := reason) (side := side) (outside apart) room some
    rw [failed fail]
    exact ⟨by simp [held, m.held, h], by simpa using released⟩
  · obtain ⟨attempt, port, waiting⟩ := State.disclaim_of_fewer (reason := reason) (side := side) (outside apart) own
      (by rw [m.attempt]; exact fewer)
    rw [failed fail]
    exact ⟨by simp [attempt, m.attempt], by simp [port, m.port],
      fun later => by simpa using waiting (ClaimRecord.retriesAtOnce_failure later)⟩
  · rw [failed fail, ← asked]
    simpa [m.port] using State.disclaim_of_fourth (reason := reason) (side := side) (outside apart) own
      (m.attempt.trans fourth) (by rw [m.state]; exact other)
  · obtain ⟨relocating, record, phase⟩ := claims
    rw [failed fail, ← asked]
    exact (State.disclaim_turns (reason := reason) (outside apart) own (m.attempt.trans fourth)
      (m.state.trans relocating) (m.reloc.trans record) phase onSide (by rw [m.held]; exact held)).congr
      (by rw [m.port]) m.held (by rw [m.port]) (by simp) (by simp)

end Sys2Proof

/-! PROOFS. What a request leaves that a test refuses or that is carried out, the position it reports, and the handover of QUIET
that may follow it (R33, R138, R146, R147, R183). -/

namespace Sys2Proof.Machine

section
variable {s : State} {kind : Byte} {r : Request}

/-! ### The port's answer (R146, R147, R183) -/

@[simp] theorem State.shiftOut_reads (s : State) (clocks : Nat) :
    (s.shiftOut clocks).pins = s.pins ∧ (s.shiftOut clocks).straps = s.straps ∧ (s.shiftOut clocks).line = s.line ∧
    (s.shiftOut clocks).access = s.access ∧ (s.shiftOut clocks).dir = s.dir ∧ (s.shiftOut clocks).resv = s.resv ∧
    (s.shiftOut clocks).memb = s.memb ∧ (s.shiftOut clocks).motion = s.motion ∧ (s.shiftOut clocks).fault = s.fault ∧
    (s.shiftOut clocks).port.cfg = s.port.cfg ∧ (s.shiftOut clocks).port.events = s.port.events := by
  simp [State.shiftOut]

@[simp] theorem State.respond_reads (s : State) (seq : Byte) (status : Status) (data : Data) :
    (s.respond seq status data).access = s.access ∧ (s.respond seq status data).dir = s.dir ∧
    (s.respond seq status data).resv = s.resv ∧ (s.respond seq status data).memb = s.memb ∧
    (s.respond seq status data).motion = s.motion ∧ (s.respond seq status data).fault = s.fault ∧
    (s.respond seq status data).port.cfg = s.port.cfg ∧ (s.respond seq status data).port.events = s.port.events ∧
    (s.respond seq status data).port.response = { seq := seq, status := status, data := data } := by
  simp [State.respond]

theorem toNat_append_eq_add {v w : Nat} (x : BitVec v) (y : BitVec w) : (x ++ y).toNat = x.toNat * 2 ^ w + y.toNat := by
  rw [BitVec.toNat_append, ← Nat.shiftLeft_add_eq_or_of_lt y.isLt, Nat.shiftLeft_eq]

/-- The position group holds the twenty bits of the position under the motion state and the known flag (R183). -/
theorem State.positionData_eq (s : State) (d3 d4 : Byte) : s.positionData d3 d4 = s.positionBytes d3 d4 := by
  have high : (bit1 s.motion.known ++ BitVec.ofNat 3 (modeCode s.motion.state) ++
      (BitVec.ofNat 20 s.motion.p).extractLsb' 16 4 : BitVec 8) =
      byte (128 * s.motion.known.toNat + 16 * modeCode s.motion.state + s.motion.p / 65536 % 16) := by
    have code : modeCode s.motion.state < 8 := by cases s.motion.state <;> decide
    apply BitVec.eq_of_toNat_eq
    simp only [bit1, byte, toNat_append_eq_add, BitVec.toNat_ofBool, BitVec.toNat_ofNat, BitVec.extractLsb'_toNat,
      Nat.shiftRight_eq_div_pow]
    have := s.motion.known.toNat_lt
    omega
  have middle : (BitVec.ofNat 20 s.motion.p).extractLsb' 8 8 = byte (s.motion.p / 256) := by
    apply BitVec.eq_of_toNat_eq
    simp only [byte, BitVec.extractLsb'_toNat, BitVec.toNat_ofNat, Nat.shiftRight_eq_div_pow]
    omega
  have low : (BitVec.ofNat 20 s.motion.p).extractLsb' 0 8 = byte s.motion.p := by
    apply BitVec.eq_of_toNat_eq
    simp only [byte, BitVec.extractLsb'_toNat, BitVec.toNat_ofNat, Nat.shiftRight_eq_div_pow]
    omega
  simp only [State.positionData, positionGroup, State.positionBytes, high, middle, low]

/-- A request that its tests refuse is answered, and has no other effect (R147). -/
theorem State.takeRequest_of_refused {act : State → State × Status} {status : Status}
    (taken : s.takes kind r) (refused : act (s.shiftOut 64) = (s.shiftOut 64, status))
    (data : State → State → Status → Data) :
    s.takeRequest kind r act data = s.replied r status (data (s.shiftOut 64) (s.shiftOut 64) status) := by
  rw [State.takeRequest_of_takes taken, refused]
  rfl

/-- A request that is accepted leaves what its effect leaves, and is answered (R147). -/
theorem State.takeRequest_of_accepted {act : State → State × Status} {status : Status} {t : State}
    (taken : s.takes kind r) (accepted : act (s.shiftOut 64) = (t, status)) (data : State → State → Status → Data) :
    s.takeRequest kind r act data = t.respond r.seq status (data (s.shiftOut 64) t status) := by
  rw [State.takeRequest_of_takes taken, accepted]

/-! ### The handover of QUIET (R33, R87, R138) -/

/-- A relocate waits in CLAIMING: the one activity of the engine that CLAIM_FAILED reaches (R138). -/
def Motion.Claims (m : Motion) : Prop := m.state = .relocating ∧ ∃ y, m.reloc = some y ∧ y.phase = .claiming

theorem Motion.not_claims_of_state {m : Motion} (other : m.state ≠ .relocating) : ¬ m.Claims :=
  fun ⟨relocating, _⟩ => other relocating

theorem Motion.not_claims_of_stepping {m : Motion} {y : RelocRecord} (record : m.reloc = some y)
    (stepping : y.phase = .stepping) : ¬ m.Claims := by
  rintro ⟨-, x, record', claiming⟩
  obtain rfl := Option.some.inj (record.symm.trans record')
  exact absurd (stepping.symm.trans claiming) nofun

theorem State.onClaimFailed_of_not_claims (other : ¬ s.motion.Claims) (side : Side) : s.onClaimFailed side = s := by
  unfold State.onClaimFailed
  split
  next y relocating record => exact if_neg fun ⟨claiming, _⟩ => other ⟨relocating, y, record, claiming⟩
  next => rfl

theorem State.motion_claimFailed (other : ¬ s.motion.Claims) (reason : EventReason) (station : Option Addr) (zone : Nat)
    (watched : List Addr) (side : Side) : (s.claimFailed reason station zone watched side).motion = s.motion := by
  unfold State.claimFailed
  dsimp only
  rw [State.onClaimFailed_of_not_claims (by simpa using other)]
  simp

theorem State.motion_attemptFailed (other : ¬ s.motion.Claims) (reason : EventReason) (station : Option Addr) (zone : Nat)
    (watched : List Addr) (side : Side) : (s.attemptFailed reason station zone watched side).motion = s.motion := by
  unfold State.attemptFailed
  split
  · exact State.motion_claimFailed other _ _ _ _ _
  · dsimp only
    split <;> simp

/-- A CLAIM that finds nothing to send moves the engine only where a relocate waits for it (R77, R78, R138). -/
theorem State.motion_claimNotSent (other : ¬ s.motion.Claims) (plan : ClaimPlan) :
    (s.claimNotSent plan).motion = s.motion := by
  have locally (side : Side) (outcome : ClaimOutcome) :
      ((s.dropClaimEntry.readNeedSide side).concludeLocally outcome).motion = s.motion := by simp
  unfold State.claimNotSent
  cases plan with
  | lapsed => rfl
  | silent side a zone =>
    simp only [State.formClaim_keeps]
    rw [State.motion_claimFailed (by rwa [locally]), locally]
  | held side zone =>
    simp only [State.formClaim_keeps]
    rw [State.motion_attemptFailed (by rwa [locally]), locally]
  | send => rfl

theorem State.motion_handoverLoop (other : ¬ s.motion.Claims) (fuel : Nat) : (s.handoverLoop fuel).motion = s.motion := by
  induction fuel generalizing s with
  | zero => rfl
  | succ n ih =>
    simp only [State.handoverLoop]
    split
    next => rfl
    next e _ =>
      split
      next => simp
      next =>
        split
        next => split <;> simp
        next =>
          have still := State.motion_claimNotSent other s.claimPlan
          exact (ih (by rwa [still])).trans still
      next => split <;> simp

/-- The handover of QUIET leaves the engine as it is, unless a relocate waits in CLAIMING (R33, R138). -/
theorem State.motion_kick (other : ¬ s.motion.Claims) : s.kick.motion = s.motion := by
  obtain still | ⟨-, loops⟩ := s.kick_cases
  · rw [still]
  · rw [loops, State.motion_handoverLoop other]

end

end Sys2Proof.Machine

/-! PROOFS. What the engine's shared operations leave: a release and the trim, the end of a move or of a relocate, and a fault
that loses the position (R71, R72, R119, R134, R141, R142, R167, R168). -/

namespace Sys2Proof.Machine

section
variable {s t u : State}

/-! ### A fresh need and a change of H in an engine that steps on or rests (R71, R88, R128) -/

/-- The engine is as it was, but for its need. -/
def Motion.SameButNeed (m n : Motion) : Prop := ∃ need last, n = { m with need := need, lastNeedSide := last }

theorem Motion.SameButNeed.refl (m : Motion) : m.SameButNeed m := ⟨m.need, m.lastNeedSide, rfl⟩

theorem Motion.SameButNeed.trans {l m n : Motion} (lm : l.SameButNeed m) (mn : m.SameButNeed n) : l.SameButNeed n := by
  obtain ⟨_, _, rfl⟩ := lm
  obtain ⟨need, last, rfl⟩ := mn
  exact ⟨need, last, rfl⟩

/-- A change of H sets nothing going: no move is stalled, and no relocate is under way (R130, R138). -/
def Motion.Rests (m : Motion) : Prop := m.state ≠ .stalled ∧ m.state ≠ .relocating

theorem Motion.SameButNeed.rests {m n : Motion} (same : m.SameButNeed n) (rests : m.Rests) : n.Rests := by
  obtain ⟨_, _, rfl⟩ := same
  exact rests

theorem Motion.rests_of_idle {m : Motion} (idle : m.state = .idle) : m.Rests := by simp [Motion.Rests, idle]

theorem Motion.rests_of_moving {m : Motion} (moving : m.state = .moving) : m.Rests := by simp [Motion.Rests, moving]

theorem State.motion_setNeed (s : State) (new : Option Need) :
    ∃ last, (s.setNeed new).motion = { s.motion with need := new, lastNeedSide := last } := by
  refine ⟨(s.setNeed new).motion.lastNeedSide, ?_⟩
  unfold State.setNeed
  dsimp only
  split
  · split <;> simp
  · simp

theorem State.motion_updateNeed (s : State) :
    ∃ last, s.updateNeed.motion = { s.motion with need := s.computeNeed, lastNeedSide := last } := s.motion_setNeed _

theorem State.sameButNeed_updateNeed (s : State) : s.motion.SameButNeed s.updateNeed.motion :=
  have ⟨last, same⟩ := s.motion_updateNeed
  ⟨_, last, same⟩

theorem State.resumeSteps_of_rests (rests : s.motion.Rests) : s.resumeSteps = s := by
  have ⟨stall, relocate⟩ := rests
  unfold State.resumeSteps
  split
  next stalled => exact absurd stalled stall
  next relocating => exact absurd relocating relocate
  all_goals rfl

theorem State.sameButNeed_onHeldChange (rests : s.motion.Rests) : s.motion.SameButNeed s.onHeldChange.motion := by
  rw [State.onHeldChange_eq, State.resumeSteps_of_rests rests]
  exact s.sameButNeed_updateNeed

/-! ### Releases and the trim (R71, R72, R125) -/

theorem ZRange.remove_empty (q : ZRange) : q.remove .empty = q := by cases q <;> rfl

/-- A release takes its zones from H, whatever the engine then does (R71). -/
theorem State.held_release (s : State) (r : ZRange) (side : Side) :
    (s.release r side).resv.held = s.resv.held.remove r := by
  unfold State.release
  split
  next none => rw [none, ZRange.remove_empty]
  next =>
    dsimp only
    split <;> simp

theorem State.sameButNeed_release (rests : s.motion.Rests) (r : ZRange) (side : Side) :
    s.motion.SameButNeed (s.release r side).motion := by
  unfold State.release
  split
  next => exact .refl _
  next =>
    dsimp only
    split
    next => simpa using Motion.SameButNeed.refl s.motion
    next =>
      have changed := State.sameButNeed_onHeldChange
        (s := (s.setResv { s.resv with held := s.resv.held.remove r }).offer (releaseEntry r side)) (by simpa using rests)
      simpa using changed

/-- The zones of H that a release below a zone gives up (R71). -/
def zonesBelow (h : ZRange) (z : Nat) : ZRange := if z = 0 then .empty else h.inter (.run 0 (z - 1))

/-- The zones of H that a release above a zone gives up (R71). -/
def zonesAbove (c : Config) (h : ZRange) (z : Nat) : ZRange := h.inter (.run (z + 1) (c.z - 1))

theorem State.held_releaseBelow (s : State) (z : Nat) :
    (s.releaseBelow z).resv.held = s.resv.held.remove (zonesBelow s.resv.held z) := s.held_release _ _

theorem State.held_releaseAbove (s : State) (z : Nat) :
    (s.releaseAbove z).resv.held = s.resv.held.remove (zonesAbove s.port.cfg s.resv.held z) := s.held_release _ _

/-- What the trim leaves of H around an occupied range (R72). -/
def trimmed (c : Config) (occupied h : ZRange) : ZRange :=
  match occupied with
  | .empty => h
  | .run lo hi =>
    let above := h.remove (zonesBelow h lo)
    above.remove (zonesAbove c above hi)

theorem State.held_trim (s : State) : s.trim.resv.held = trimmed s.port.cfg s.occupied s.resv.held := by
  unfold State.trim
  split
  next none => rw [none]; rfl
  next lo hi occupied => rw [occupied]; simp [trimmed, State.held_releaseAbove, State.held_releaseBelow]

/-- The trim reads the configuration, the position and H, and nothing else of the engine. -/
theorem State.held_trim_congr (cfg : t.port.cfg = s.port.cfg) (known : t.motion.known = s.motion.known)
    (p : t.motion.p = s.motion.p) (held : t.resv.held = s.resv.held) : t.trim.resv.held = s.trim.resv.held := by
  simp [State.held_trim, State.occupied, cfg, known, p, held]

theorem State.sameButNeed_trim (rests : s.motion.Rests) : s.motion.SameButNeed s.trim.motion := by
  unfold State.trim
  split
  next => exact .refl _
  next lo hi _ =>
    have below : s.motion.SameButNeed (s.releaseBelow lo).motion := State.sameButNeed_release rests _ _
    exact below.trans (State.sameButNeed_release (below.rests rests) _ _)

/-- The carriage at a position stands on zones of a range of the rail (R2, R5, R120). -/
structure StandsIn (c : Config) (q : Nat) (h : ZRange) (hlo hhi : Nat) : Prop where
  steps : 0 < c.s
  wide : 0 < c.w
  legal : q ≤ maxPosition c
  held : h = .run hlo hhi
  rail : hhi < c.z
  low : hlo ≤ q / c.s
  high : (q + c.w * c.s - 1) / c.s ≤ hhi

theorem StandsIn.of_inside {c : Config} {q hlo hhi : Nat} {h : ZRange} (steps : 0 < c.s) (wide : 0 < c.w)
    (legal : q ≤ (c.z - c.w) * c.s) (held : h = .run hlo hhi) (rail : hhi < c.z) (inside : (bodyAt c q).inside h = true) :
    StandsIn c q h hlo hhi := by
  subst held
  obtain ⟨low, high⟩ := ZRange.run_inside_run.1 inside
  exact ⟨steps, wide, legal, rfl, rail, low, high⟩

section
variable {c : Config} {q hlo hhi : Nat} {h : ZRange}

theorem StandsIn.order (stands : StandsIn c q h hlo hhi) : q / c.s ≤ (q + c.w * c.s - 1) / c.s :=
  Nat.div_le_div_right (by have := Nat.mul_pos stands.wide stands.steps; omega)

theorem StandsIn.above (stands : StandsIn c q h hlo hhi) :
    h.remove (zonesBelow h (q / c.s)) = .run (q / c.s) hhi := by
  rw [stands.held]
  exact ZRange.remove_below stands.low (stands.order.trans stands.high)

theorem StandsIn.below (stands : StandsIn c q h hlo hhi) :
    h.remove (zonesAbove c h ((q + c.w * c.s - 1) / c.s)) = .run hlo ((q + c.w * c.s - 1) / c.s) := by
  rw [stands.held]
  exact ZRange.remove_above (stands.low.trans stands.order) stands.high stands.rail

/-- The trim leaves the zones in which the carriage stands (R72). -/
theorem StandsIn.trimmed (stands : StandsIn c q h hlo hhi) : trimmed c (bodyAt c q) h = bodyAt c q := by
  have rest : StandsIn c q (.run (q / c.s) hhi) (q / c.s) hhi :=
    { stands with held := rfl, low := Nat.le_refl _ }
  simp only [bodyAt, Machine.trimmed, stands.above, rest.below]

theorem State.held_trim_of_stands (known : s.motion.known = true)
    (stands : StandsIn s.port.cfg s.motion.p s.resv.held hlo hhi) : s.trim.resv.held = bodyAt s.port.cfg s.motion.p := by
  rw [State.held_trim, State.occupied_of_known known stands.legal]
  exact stands.trimmed

end

/-! ### The end of a move (R134) -/

/-- The engine whose move has ended: no step, no set-up and no stall is under way, and there is neither target nor need
(R122, R134). -/
def Motion.moveOver (m : Motion) (last : Option Side) : Motion :=
  { m with stepTimer := ⟨false, 0⟩, setupTimer := ⟨false, 0⟩, stallTimer := ⟨false, 0⟩, target := none, direction := none,
           need := none, lastNeedSide := last }

/-- The trim of the end of a move in IDLE (R134). -/
def State.trimAtRest (s : State) : State := if s.motion.state = .idle then s.trim else s

/-- The target and the direction of a move are given up (R134). -/
def State.dropTarget (s : State) : State := s.setMotion { s.motion with target := none, direction := none }

theorem State.endMove_eq (s : State) (reason : EndReason) :
    s.endMove reason =
      let v := s.stopMove.trimAtRest.dropTarget.updateNeed.orphanClaim
      v.queueEvent (.moveEnded reason v.knownPosition) := rfl

theorem State.sameButNeed_trimAtRest (s : State) : s.motion.SameButNeed s.trimAtRest.motion := by
  unfold State.trimAtRest
  split
  next idle => exact State.sameButNeed_trim (Motion.rests_of_idle idle)
  next => exact .refl _

@[simp] theorem State.port_trimAtRest (s : State) : s.trimAtRest.port = s.port := by
  unfold State.trimAtRest
  split <;> simp

theorem State.computeNeed_of_idle (idle : s.motion.state = .idle) : s.computeNeed = none := by
  simp [State.computeNeed, idle]

/-- What the end of a move makes of the engine before the fresh need (R134). -/
theorem State.motion_dropTarget (s : State) :
    ∃ need last, s.stopMove.trimAtRest.dropTarget.motion = { s.motion.moveOver last with need := need } := by
  obtain ⟨need, last, still⟩ := s.stopMove.sameButNeed_trimAtRest
  refine ⟨need, last, ?_⟩
  unfold State.dropTarget
  rw [State.motion_setMotion, still]
  rfl

/-- A move that ends in IDLE or HALTED leaves nothing of it in the engine (R134). -/
theorem State.motion_endMove (rest : s.motion.state = .idle ∨ s.motion.state = .halted) (reason : EndReason) :
    ∃ last, (s.endMove reason).motion = s.motion.moveOver last := by
  obtain ⟨need, last, dropped⟩ := s.motion_dropTarget
  obtain ⟨side, fresh⟩ := s.stopMove.trimAtRest.dropTarget.motion_updateNeed
  have state : s.stopMove.trimAtRest.dropTarget.motion.state = s.motion.state := by rw [dropped]; rfl
  have none : s.stopMove.trimAtRest.dropTarget.computeNeed = none := by
    rcases rest with idle | halted
    · exact State.computeNeed_of_idle (state.trans idle)
    · exact State.computeNeed_of_halted (state.trans halted)
  refine ⟨side, ?_⟩
  rw [State.endMove_eq]
  simp only [State.queueEvent_keeps, State.orphanClaim_keeps]
  rw [fresh, none, dropped]
  rfl

theorem State.events_endMove (s : State) (reason : EndReason) :
    (s.endMove reason).port.events = placeEvent s.port.events (.moveEnded reason s.knownPosition) := by
  obtain ⟨need, last, dropped⟩ := s.motion_dropTarget
  have port : s.stopMove.trimAtRest.dropTarget.port = s.port := by simp [State.dropTarget, State.stopMove]
  rw [State.endMove_eq]
  simp [State.queueEvent, State.knownPosition, dropped, port, Motion.moveOver]

/-- A move that ends in IDLE releases every zone outside the carriage (R72, R134). -/
theorem State.held_endMove (idle : s.motion.state = .idle) (reason : EndReason) :
    (s.endMove reason).resv.held = s.trim.resv.held := by
  have trims : s.stopMove.trimAtRest = s.stopMove.trim := if_pos (by simpa [State.stopMove] using idle)
  have same : s.stopMove.trim.resv.held = s.trim.resv.held :=
    State.held_trim_congr (by simp [State.stopMove]) (by simp [State.stopMove]) (by simp [State.stopMove])
      (by simp [State.stopMove])
  rw [State.endMove_eq, trims]
  simpa [State.dropTarget] using same

/-! ### The end of a relocate (R141) -/

/-- The engine whose relocate has ended without its boundary (R122, R141). -/
def Motion.relocOver (m : Motion) (after : MotionState) : Motion :=
  { m with stepTimer := ⟨false, 0⟩, setupTimer := ⟨false, 0⟩, reloc := none, need := none, state := after }

theorem State.motion_endRelocate {y : RelocRecord} (record : s.motion.reloc = some y) (reason : EndReason)
    (after : MotionState) : (s.endRelocate reason after).motion = s.motion.relocOver after := by
  simp [State.endRelocate, record, State.setNeed_none, Motion.stopStepping, Motion.relocOver, Timer.stopped]

/-! ### A fault that loses the position (R119, R142, R167, R168) -/

/-- A step reports one of two faults, and each loses the position (R124, R139, R142). -/
def FaultReport.OfAStep (r : FaultReport) : Prop := r = .tracking ∨ r = .relocateLimit

/-- The part as the engine is forced into HALTED: the cause is latched and FAULT is queued (R168). -/
def State.latched (s : State) (cause : FaultCause) : State :=
  (s.setFault { s.fault with cause := some cause }).queueEvent (.fault cause)

theorem State.reportFault_of_step {r : FaultReport} (step : r.OfAStep) (clear : s.fault.cause = none) :
    s.reportFault r = (s.latched r.cause).forceHalt r.cause ∧ r.cause.losesPosition = true := by
  rcases step with rfl | rfl <;>
    simp [State.reportFault, FaultUnit.take, clear, State.latched, FaultReport.cause, FaultCause.losesPosition]

/-- The engine with its pulse cut and its position lost (R121, R142). -/
def Motion.lost (m : Motion) : Motion := { m.cutPulse with known := false }

/-- The fault of a step ends a move in HALTED, with no position (R134, R142). -/
theorem State.reportFault_of_moving {r : FaultReport} (step : r.OfAStep) (clear : s.fault.cause = none)
    (moving : s.motion.state = .moving) :
    (∃ last, (s.reportFault r).motion = { s.motion.lost with state := .halted }.moveOver last) ∧
    (s.reportFault r).port.events = placeEvents s.port.events [.fault r.cause, .moveEnded .fault none] := by
  obtain ⟨eq, loses⟩ := State.reportFault_of_step step clear
  let v := s.latched r.cause
  have halts : v.forceHalt r.cause = (v.setMotion { s.motion.lost with state := .halted }).endMove .fault := by
    simp [v, State.latched, State.forceHalt, moving, loses, Motion.lost]
    rfl
  rw [eq, halts]
  refine ⟨State.motion_endMove (.inr rfl) _, ?_⟩
  rw [State.events_endMove]
  rfl

/-- The fault of a step ends a relocate in HALTED (R141, R142). -/
theorem State.reportFault_of_relocating {r : FaultReport} {y : RelocRecord} (step : r.OfAStep)
    (clear : s.fault.cause = none) (relocating : s.motion.state = .relocating) (record : s.motion.reloc = some y) :
    (s.reportFault r).motion = s.motion.lost.relocOver .halted ∧
    (s.reportFault r).port.events = placeEvents s.port.events [.fault r.cause, .relocateEnded .fault y.k] := by
  obtain ⟨eq, loses⟩ := State.reportFault_of_step step clear
  let v := s.latched r.cause
  have halts : v.forceHalt r.cause = (v.setMotion s.motion.lost).endRelocate .fault .halted := by
    simp [v, State.latched, State.forceHalt, relocating, loses, Motion.lost]
  rw [eq, halts]
  refine ⟨State.motion_endRelocate (s := v.setMotion s.motion.lost) record _ _, ?_⟩
  rw [(State.endRelocate_reports _ _).1]
  have record' : (v.setMotion s.motion.lost).motion.reloc = some y := record
  rw [record']
  rfl

theorem State.fault_reportFault_of_step {r : FaultReport} (step : r.OfAStep) (clear : s.fault.cause = none) :
    (s.reportFault r).fault.cause = some r.cause := by
  rw [(State.reportFault_of_step step clear).1]
  simp [State.latched]

end

end Sys2Proof.Machine

/-! PROOFS. The requests to the motion engine: MOVE, STOP, RELOCATE refused, and CLEAR_FAULT (R122, R127, R131 to R135, R141, R143,
R152, R153, R155, R171). -/

namespace Sys2Proof.Machine

section
variable {s : State} {r : Request} {zone : Byte} {t : Nat} {status : Status} {u : State}

/-! ### MOVE's tests, in order (R131, R152) -/

theorem moveAct_of_far (far : maxPosition s.port.cfg < t) : moveAct t s = (s, .range) := if_pos far

theorem moveAct_of_not_joined (legal : t ≤ maxPosition s.port.cfg) (other : s.memb.state ≠ .joined) :
    moveAct t s = (s, .state) := (if_neg (Nat.not_lt.2 legal)).trans (if_pos other)

/-- A station that is JOINED carries MOVE out by the state of its engine (R131). -/
theorem moveAct_of_joined (legal : t ≤ maxPosition s.port.cfg) (joined : s.memb.state = .joined) :
    moveAct t s =
      match s.motion.state with
      | .unplaced | .halted => (s, .state)
      | .relocating => (s, .busy)
      | .moving | .stalled => s.retarget t
      | .idle => ((s.beginMove t).kick, .done) :=
  (if_neg (Nat.not_lt.2 legal)).trans (if_neg (not_not_intro joined))

/-- A refused MOVE reports the position (R152). -/
theorem exec_move_of_refused (taken : s.takes 0x20#8 r) (refused : moveAct r.target20 (s.shiftOut 64) = (s.shiftOut 64, status)) :
    exec (.move r) s = .next (s.replied r status (s.positionBytes 0x00#8 0x00#8)) := by
  change Host.Outcome.next (s.takeRequest 0x20#8 r (moveAct r.target20) positionAfter) = _
  rw [State.takeRequest_of_refused taken refused, positionAfter, State.positionData_eq]
  rfl

theorem exec_move_of_accepted (taken : s.takes 0x20#8 r) (accepted : moveAct r.target20 (s.shiftOut 64) = (u, .done)) :
    exec (.move r) s = .next (u.respond r.seq .done (positionAfter (s.shiftOut 64) u .done)) := by
  change Host.Outcome.next (s.takeRequest 0x20#8 r (moveAct r.target20) positionAfter) = _
  rw [State.takeRequest_of_accepted taken accepted]

/-! ### MOVE accepted (R122, R127, R131, R132, R134) -/

/-- What a request to the engine leaves alone, whatever it does to H (R119). -/
structure SameAround (s u : State) : Prop where
  dir : u.dir = s.dir
  fault : u.fault = s.fault
  memb : u.memb.state = s.memb.state

/-- The side of the carriage on which a target lies (R131). -/
def Motion.sideOf (m : Motion) (t : Nat) : Side := if m.p < t then .up else .down

/-- The engine as a move to a target begins (R131). -/
def Motion.moveBegun (m : Motion) (t : Nat) : Motion :=
  { m with target := some t, direction := some (m.sideOf t), mismatch := 0, state := .moving, stepTimer := ⟨true, 0⟩ }

/-- The need of a move that has begun (R127). -/
theorem State.computeNeed_moveBegun (s : State) (t : Nat) :
    (s.setMotion (s.motion.moveBegun t)).computeNeed =
      if s.resv.held = .empty ∨ s.motion.known = false then none
      else moveNeed s.port.cfg s.motion.p t (s.motion.sideOf t) s.resv.held := by
  by_cases empty : s.resv.held = .empty
  · simp [State.computeNeed, empty]
  · cases known : s.motion.known <;> simp [State.computeNeed, Motion.moveBegun, empty, known]

/-- A move that begins leaves the engine moving, and the handover of QUIET does not touch it (R33, R127, R131). -/
theorem State.beginMove_of_away (away : t ≠ s.motion.p) : ∃ u, (s.beginMove t).kick = u ∧ SameAround s u ∧
    u.resv.held = s.resv.held ∧ ∃ need last,
      need = (if s.resv.held = .empty ∨ s.motion.known = false then none
        else moveNeed s.port.cfg s.motion.p t (s.motion.sideOf t) s.resv.held) ∧
      u.motion = { s.motion.moveBegun t with need := need, lastNeedSide := last } := by
  have begins : s.beginMove t = (s.setMotion (s.motion.moveBegun t)).updateNeed := if_neg away
  obtain ⟨last, fresh⟩ := (s.setMotion (s.motion.moveBegun t)).motion_updateNeed
  rw [begins]
  refine ⟨_, rfl, ⟨by simp, by simp, by simp⟩, by simp, _, last, s.computeNeed_moveBegun t, ?_⟩
  rw [State.motion_kick (Motion.not_claims_of_state (by simp [Motion.moveBegun])), fresh]
  rfl

/-- The end of a move brings the engine to IDLE first (R126, R130, R132, R133). -/
def State.toIdle (s : State) : State := s.setMotion { s.motion with state := .idle }

/-- What the end of a move in IDLE leaves, the handover of QUIET included (R33, R134). -/
structure MoveEnds (s u : State) (reason : EndReason) : Prop extends SameAround s u where
  motion : ∃ last, u.motion = s.toIdle.motion.moveOver last
  held : u.resv.held = s.trim.resv.held
  events : u.port.events = placeEvent s.port.events (.moveEnded reason s.knownPosition)

theorem State.moveEnds_endMove (s : State) (reason : EndReason) : MoveEnds s (s.toIdle.endMove reason).kick reason := by
  obtain ⟨last, ended⟩ := State.motion_endMove (s := s.toIdle) (.inl rfl) reason
  obtain ⟨engine, port⟩ := State.kick_keeps_engine (s := s.toIdle.endMove reason) (.inl (by rw [ended]; rfl))
  have held : s.toIdle.trim.resv.held = s.trim.resv.held := State.held_trim_congr rfl rfl rfl rfl
  exact
    { motion := ⟨last, engine.trans ended⟩
      held := by simpa using (State.held_endMove (s := s.toIdle) rfl reason).trans held
      events := by rw [port, State.events_endMove]; rfl
      dir := by simp [State.toIdle]
      fault := by simp [State.toIdle]
      memb := by simp [State.toIdle] }

theorem State.beginMove_at (here : t = s.motion.p) (idle : s.motion.state = .idle) :
    MoveEnds s (s.beginMove t).kick .arrived := by
  have same : s.toIdle = s := by unfold State.toIdle; rw [← idle]; rfl
  have ends : s.beginMove t = s.endMove .arrived := if_pos here
  have := s.moveEnds_endMove .arrived
  rwa [same, ← ends] at this

theorem State.retarget_at (here : t = s.motion.p) : s.retarget t = ((s.toIdle.endMove .arrived).kick, .done) := if_pos here

theorem State.retarget_behind (away : t ≠ s.motion.p) (behind : s.motion.direction ≠ some (s.motion.sideOf t)) :
    s.retarget t = (s, .busy) := (if_neg away).trans (if_neg behind)

/-- A retarget replaces the target, and the need with it (R128, R132). -/
theorem State.retarget_ahead (away : t ≠ s.motion.p) (ahead : s.motion.direction = some (s.motion.sideOf t))
    (moves : s.motion.state ≠ .relocating) : ∃ u, s.retarget t = (u, .done) ∧ SameAround s u ∧
    u.resv.held = s.resv.held ∧ ∃ need last, u.motion = { s.motion with target := some t, need := need, lastNeedSide := last } := by
  let v := s.setMotion { s.motion with target := some t }
  have replaces : s.retarget t = (v.updateNeed.kick, .done) := (if_neg away).trans (if_pos ahead)
  obtain ⟨last, fresh⟩ := v.motion_updateNeed
  refine ⟨_, replaces, ⟨by simp [v], by simp [v], by simp [v]⟩, by simp [v], v.computeNeed, last, ?_⟩
  rw [State.motion_kick (Motion.not_claims_of_state (by simpa [v] using moves)), fresh]
  rfl

/-! ### STOP (R133, R134, R141) -/

theorem exec_stop_of_takes (taken : s.takes 0x21#8 r) (accepted : stopAct (s.shiftOut 64) = (u, .done)) :
    exec (.stop r) s = .next (u.respond r.seq .done (positionAfter (s.shiftOut 64) u .done)) := by
  change Host.Outcome.next (s.takeRequest 0x21#8 r stopAct positionAfter) = _
  rw [State.takeRequest_of_accepted taken accepted]

theorem exec_stop_at_rest (taken : s.takes 0x21#8 r) (rest : stopAct (s.shiftOut 64) = (s.shiftOut 64, .done)) :
    exec (.stop r) s = .next (s.replied r .done (s.positionBytes 0x00#8 0x00#8)) := by
  change Host.Outcome.next (s.takeRequest 0x21#8 r stopAct positionAfter) = _
  rw [State.takeRequest_of_refused taken rest, positionAfter, State.positionData_eq]
  rfl

theorem stopAct_of_move (moves : s.motion.state = .moving ∨ s.motion.state = .stalled) :
    stopAct s = ((s.toIdle.endMove .stopped).kick, .done) := by
  rcases moves with h | h <;> simp [stopAct, h, State.toIdle]

theorem stopAct_of_relocate (relocating : s.motion.state = .relocating) :
    stopAct s = ((s.endRelocate .stopped .unplaced).kick, .done) := by
  simp [stopAct, relocating]

theorem stopAct_at_rest (rest : s.motion.state = .idle ∨ s.motion.state = .unplaced ∨ s.motion.state = .halted) :
    stopAct s = (s, .done) := by
  rcases rest with h | h | h <;> simp [stopAct, h]

/-- A relocate that ends has no need, so the handover of QUIET leaves the engine and the events alone (R33, R141). -/
theorem State.endRelocate_kick {y : RelocRecord} (record : s.motion.reloc = some y) (reason : EndReason)
    (after : MotionState) : ∃ u, (s.endRelocate reason after).kick = u ∧ SameAround s u ∧ u.resv.held = s.resv.held ∧
    u.motion = s.motion.relocOver after ∧ u.port.events = placeEvent s.port.events (.relocateEnded reason y.k) := by
  have ended := State.motion_endRelocate record reason after
  obtain ⟨engine, port⟩ := State.kick_keeps_engine (s := s.endRelocate reason after) (.inl (by rw [ended]; rfl))
  refine ⟨_, rfl, ⟨by simp, by simp, by simp⟩, by simp, engine.trans ended, ?_⟩
  rw [port, (State.endRelocate_reports reason after).1, record]
  rfl

/-! ### RELOCATE's tests, in order (R135, R153) -/

theorem relocateData_of_refused (other : status ≠ .done) (u : State) :
    relocateData s u status = u.positionData 0xFF#8 0x00#8 := by
  cases status with
  | done => exact absurd rfl other
  | _ => rfl

theorem exec_relocate_of_refused (taken : s.takes 0x22#8 r)
    (refused : relocateAct ((s.withZone zone).shiftOut 64) = ((s.withZone zone).shiftOut 64, status))
    (other : status ≠ .done) :
    exec (.relocate r zone) s = .next ((s.withZone zone).replied r status (s.positionBytes 0xFF#8 0x00#8)) := by
  have taken' : (s.withZone zone).takes 0x22#8 r := taken
  change Host.Outcome.next ((s.withZone zone).takeRequest 0x22#8 r relocateAct relocateData) = _
  rw [State.takeRequest_of_refused taken' refused, relocateData_of_refused other, State.positionData_eq]
  rfl

/-- A station that is JOINED takes RELOCATE by the state of its engine (R135). -/
theorem relocateAct_of_joined (joined : s.memb.state = .joined) :
    relocateAct s =
      match s.motion.state with
      | .idle | .halted => (s, .state)
      | .moving | .stalled | .relocating => (s, .busy)
      | .unplaced =>
        match s.reading with
        | none => (s, .state)
        | some k => ((s.beginRelocate k).kick, .done) := if_neg (not_not_intro joined)

/-! ### CLEAR_FAULT (R143, R155, R171) -/

/-- The latch with its cause cleared (R171). -/
def FaultUnit.clear (f : FaultUnit) : FaultUnit := { f with cause := none, further := false, intruders := [] }

theorem clearFaultAct_of_refused (kept : s.fault.cause = none ∨ s.fault.cause = some .evicted) :
    clearFaultAct s = (s, .state) := by
  rcases kept with h | h <;> simp [clearFaultAct, h]

theorem clearFaultAct_of_cause (latched : s.fault.cause.isSome = true) (other : s.fault.cause ≠ some .evicted) :
    clearFaultAct s = ((s.setFault s.fault.clear).releaseHalt.kick, .done) := by
  unfold clearFaultAct
  split
  next none => simp [none] at latched
  next evicted => exact absurd evicted other
  all_goals rfl

/-- The engine in the state that CLEAR_FAULT leaves (R143). -/
def Motion.released (m : Motion) : Motion :=
  { m with state := if m.known then .idle else .unplaced, mismatch := 0 }

/-- The engine released from HALTED is at rest without a need; where its place is known, the zones outside the carriage are
released (R143). -/
theorem State.releaseHalt_spec (halted : s.motion.state = .halted) :
    (∃ last, s.releaseHalt.motion = { s.motion.released with need := none, lastNeedSide := last }) ∧
    s.releaseHalt.resv.held = (if s.motion.known then s.trim.resv.held else s.resv.held) ∧
    s.releaseHalt.memb = s.memb := by
  unfold State.releaseHalt
  rw [if_pos halted]
  split
  next known =>
    let v := s.setMotion { s.motion with state := .idle, mismatch := 0 }
    obtain ⟨need, last, still⟩ := State.sameButNeed_trim (s := v) (Motion.rests_of_idle rfl)
    obtain ⟨side, fresh⟩ := v.trim.motion_updateNeed
    have none : v.trim.computeNeed = none := State.computeNeed_of_idle (by rw [still]; rfl)
    have held : v.trim.resv.held = s.trim.resv.held := State.held_trim_congr rfl rfl rfl rfl
    refine ⟨⟨side, ?_⟩, by simpa using held, by simp⟩
    rw [fresh, none, still]
    simp [Motion.released, known, v]
  next unknown =>
    obtain ⟨side, fresh⟩ := (s.setMotion { s.motion with state := .unplaced, mismatch := 0 }).motion_updateNeed
    refine ⟨⟨side, ?_⟩, by simp, by simp⟩
    rw [fresh]
    simp [Motion.released, unknown, State.computeNeed]

/-- What the release from HALTED leaves, the handover of QUIET included (R33, R143). -/
structure HaltReleased (s u : State) : Prop extends SameAround s u where
  motion : ∃ last, u.motion = { s.motion.released with need := none, lastNeedSide := last }
  held : u.resv.held = if s.motion.known then s.trim.resv.held else s.resv.held
  port : u.port = s.port

theorem State.haltReleased_releaseHalt (halted : s.motion.state = .halted) : HaltReleased s s.releaseHalt.kick := by
  obtain ⟨⟨last, released⟩, held, memb⟩ := State.releaseHalt_spec halted
  obtain ⟨engine, port⟩ := State.kick_keeps_engine (s := s.releaseHalt) (.inl (by rw [released]))
  exact
    { motion := ⟨last, engine.trans released⟩
      held := by simpa using held
      port := by simp [port]
      dir := by simp
      fault := by simp
      memb := by simp [memb] }

theorem exec_clearFault_of_refused (taken : s.takes 0x31#8 r) (kept : s.fault.cause = none ∨ s.fault.cause = some .evicted) :
    exec (.clearFault r) s = .next (s.replied r .state (clearFaultData s s .state)) := by
  change Host.Outcome.next (s.takeRequest 0x31#8 r clearFaultAct clearFaultData) = _
  rw [State.takeRequest_of_refused taken (clearFaultAct_of_refused (by simpa using kept))]
  rfl

theorem exec_clearFault_of_cause (taken : s.takes 0x31#8 r) (latched : s.fault.cause.isSome = true)
    (other : s.fault.cause ≠ some .evicted) :
    let u := ((s.shiftOut 64).setFault s.fault.clear).releaseHalt.kick
    exec (.clearFault r) s = .next (u.respond r.seq .done (clearFaultData (s.shiftOut 64) u .done)) := by
  change Host.Outcome.next (s.takeRequest 0x31#8 r clearFaultAct clearFaultData) = _
  rw [State.takeRequest_of_accepted taken (clearFaultAct_of_cause (by simpa using latched) (by simpa using other))]
  rfl

end

end Sys2Proof.Machine

namespace Sys2Proof
open Machine

/-- Settles O12: each refusal is the test of R131 that its clause reaches. -/
theorem moveIsRefusedInTheOrderOfItsTests : Obligations.MoveIsRefusedInTheOrderOfItsTests := by
  intro r s taken t pos
  have tests (legal : t ≤ maxPosition s.port.cfg) (joined : s.memb.state = .joined) :=
    moveAct_of_joined (s := s.shiftOut 64) legal joined
  refine ⟨fun far => ?_, fun legal other => ?_, fun legal joined rest => ?_, fun legal joined relocating => ?_⟩
  · exact exec_move_of_refused taken (moveAct_of_far far)
  · exact exec_move_of_refused taken (moveAct_of_not_joined legal other)
  · refine exec_move_of_refused taken ((tests legal joined).trans ?_)
    rcases rest with h | h <;> simp [h]
  · exact exec_move_of_refused taken ((tests legal joined).trans (by simp [relocating]))

/-- Settles O13: a move away from the carriage begins, and one to its place is over at once; in neither does the handover of
QUIET move the engine. -/
theorem moveBeginsAMoveFromIdle : Obligations.MoveBeginsAMoveFromIdle := by
  intro r s taken joined idle legal t d
  have accepted : moveAct t (s.shiftOut 64) = (((s.shiftOut 64).beginMove t).kick, .done) :=
    (moveAct_of_joined (s := s.shiftOut 64) legal joined).trans (by simp [idle, t])
  refine ⟨fun away => ?_, fun here => ?_⟩
  · obtain ⟨u, begins, ⟨dir, fault, memb⟩, held, need, last, asks, engine⟩ :=
      State.beginMove_of_away (s := s.shiftOut 64) away
    refine ⟨_, exec_move_of_accepted taken (accepted.trans (by rw [begins])), ?_⟩
    simp [engine, asks, Motion.moveBegun, Motion.sideOf, held, dir, fault, memb, d]
  · obtain ⟨u, begins⟩ : ∃ u, ((s.shiftOut 64).beginMove t).kick = u := ⟨_, rfl⟩
    obtain ⟨⟨dir, fault, -⟩, ⟨last, engine⟩, -, events⟩ := begins ▸ State.beginMove_at (s := s.shiftOut 64) here idle
    refine ⟨_, exec_move_of_accepted taken (accepted.trans (by rw [begins])), ?_⟩
    simp [engine, State.toIdle, Motion.moveOver, events, dir, fault, State.knownPosition]

/-- Settles O14: a target ahead replaces the target alone, one at the carriage ends the move, and one behind changes nothing. -/
theorem moveRetargetsARunningMove : Obligations.MoveRetargetsARunningMove := by
  intro r s taken joined moves legal t ahead
  have retargets : moveAct t (s.shiftOut 64) = (s.shiftOut 64).retarget t := by
    refine (moveAct_of_joined (s := s.shiftOut 64) legal joined).trans ?_
    rcases moves with h | h <;> simp [h, t]
  refine ⟨fun away on => ?_, fun here => ?_, fun away behind => ?_⟩
  · obtain ⟨u, replaces, ⟨dir, fault, -⟩, held, need, last, engine⟩ := State.retarget_ahead (s := s.shiftOut 64) away on
      (by rcases moves with h | h <;> simp [h])
    refine ⟨_, exec_move_of_accepted taken (retargets.trans replaces), ?_⟩
    simp [engine, dir, fault, held]
  · obtain ⟨u, ends⟩ : ∃ u, ((s.shiftOut 64).toIdle.endMove .arrived).kick = u := ⟨_, rfl⟩
    obtain ⟨-, ⟨last, engine⟩, -, events⟩ := ends ▸ (s.shiftOut 64).moveEnds_endMove .arrived
    have here := State.retarget_at (s := s.shiftOut 64) here
    refine ⟨_, exec_move_of_accepted taken (retargets.trans (here.trans (by rw [ends]))), ?_⟩
    simp [engine, State.toIdle, Motion.moveOver, events, State.knownPosition]
  · exact exec_move_of_refused taken (retargets.trans (State.retarget_behind (s := s.shiftOut 64) away behind))

/-- Settles O15: at rest STOP changes nothing, a move ends in IDLE and a relocate in UNPLACED. -/
theorem stopEndsWhatTheEngineIsDoing : Obligations.StopEndsWhatTheEngineIsDoing := by
  intro r s q taken
  refine ⟨fun rest => ?_, fun moves => ?_, fun relocating record => ?_⟩
  · exact exec_stop_at_rest taken (stopAct_at_rest rest)
  · obtain ⟨u, ends⟩ : ∃ u, ((s.shiftOut 64).toIdle.endMove .stopped).kick = u := ⟨_, rfl⟩
    obtain ⟨⟨dir, fault, memb⟩, ⟨last, engine⟩, held, events⟩ := ends ▸ (s.shiftOut 64).moveEnds_endMove .stopped
    have trim : (s.shiftOut 64).trim.resv.held = s.trim.resv.held := State.held_trim_congr rfl rfl rfl rfl
    have stops := stopAct_of_move (s := s.shiftOut 64) moves
    refine ⟨_, exec_stop_of_takes taken (stops.trans (by rw [ends])), ?_⟩
    simp [engine, State.toIdle, Motion.moveOver, held, trim, events, dir, fault, memb, State.knownPosition]
  · obtain ⟨u, ends, ⟨dir, fault, memb⟩, held, engine, events⟩ :=
      State.endRelocate_kick (s := s.shiftOut 64) record .stopped .unplaced
    have stops := stopAct_of_relocate (s := s.shiftOut 64) relocating
    refine ⟨_, exec_stop_of_takes taken (stops.trans (by rw [ends])), ?_⟩
    simp [engine, Motion.relocOver, held, events, dir, fault, memb]

/-- Settles O16: each refusal is the test of R135 that its clause reaches. -/
theorem relocateIsRefusedInTheOrderOfItsTests : Obligations.RelocateIsRefusedInTheOrderOfItsTests := by
  intro r zone s taken u pos
  have tests (joined : s.memb.state = .joined) := relocateAct_of_joined (s := (s.withZone zone).shiftOut 64) joined
  refine ⟨fun other => ?_, fun joined rest => ?_, fun joined busy => ?_, fun joined unplaced unreadable => ?_⟩
  · exact exec_relocate_of_refused taken (if_pos other) nofun
  · refine exec_relocate_of_refused taken ((tests joined).trans ?_) nofun
    rcases rest with h | h <;> simp [h]
  · refine exec_relocate_of_refused taken ((tests joined).trans ?_) nofun
    rcases busy with h | h | h <;> simp [h]
  · have none : ((s.withZone zone).shiftOut 64).reading = none := if_neg (Nat.not_lt.2 unreadable)
    exact exec_relocate_of_refused taken ((tests joined).trans (by simp [unplaced, none])) nofun

/-- Settles O19: a cause that stands is cleared and the engine is released; none, and EVICTED, stay. -/
theorem clearFaultClearsTheLatch : Obligations.ClearFaultClearsTheLatch := by
  intro r s taken data
  refine ⟨fun kept => exec_clearFault_of_refused taken kept, fun latched other halted => ?_⟩
  let v := (s.shiftOut 64).setFault s.fault.clear
  obtain ⟨u, releases⟩ : ∃ u, v.releaseHalt.kick = u := ⟨_, rfl⟩
  obtain ⟨⟨dir, fault, memb⟩, ⟨last, engine⟩, held, port⟩ := releases ▸ State.haltReleased_releaseHalt (s := v) halted
  have trim : v.trim.resv.held = s.trim.resv.held := State.held_trim_congr rfl rfl rfl rfl
  rw [trim] at held
  have running : s.fault.phase = .running := by simpa [State.inReset] using taken.1
  have answer := releases ▸ exec_clearFault_of_cause taken latched other
  refine ⟨_, answer, ?_⟩
  cases known : s.motion.known <;>
    simp [engine, held, memb, fault, dir, port, known, running, v, data, Motion.released, FaultUnit.clear,
      State.faultLine, State.driveEn, State.faulted, State.inReset, clearFaultData]

end Sys2Proof

/-! PROOFS. The steps of moves and of relocates: what a step that is counted, a change of DIR and a step that does not fit leave
(R121 to R126, R129, R139, R140). -/

namespace Sys2Proof.Machine

section
variable {s t u v : State} {zone : Byte} {d q count hlo hhi : Nat} {side : Side} {y : RelocRecord}

/-! ### Time and the ZONE lines at a step (R4, R49, R121) -/

/-- The directory but for its ages, the membership state and the configuration are as they were. -/
def StepFrame (s t : State) : Prop :=
  t.dir.eviction = s.dir.eviction ∧ t.memb.state = s.memb.state ∧ t.port.cfg = s.port.cfg ∧
    ∀ a, (t.entry a).state = (s.entry a).state ∧ (t.entry a).held = (s.entry a).held

theorem StepFrame.congr (h : StepFrame s u) (dir : t.dir = u.dir) (memb : t.memb.state = u.memb.state)
    (cfg : t.port.cfg = u.port.cfg) : StepFrame s t := by
  obtain ⟨eviction, member, config, entries⟩ := h
  exact ⟨by rw [dir, eviction], memb.trans member, cfg.trans config, by simpa [State.entry, dir] using entries⟩

theorem SameLatch.congr (h : SameLatch s u) (fault : t.fault = u.fault) : SameLatch s t := by
  simpa [SameLatch, fault] using h

/-- The part at an event of the engine: the ZONE lines are read, and time has passed (R4, R121). -/
def State.sampled (s : State) (zone : Byte) (d : Nat) : State := (s.withZone zone).advance d

theorem State.stepFrame_advance (s : State) (d : Nat) : StepFrame s (s.advance d) := by
  refine ⟨by simp, by simp, by simp, fun a => ?_⟩
  obtain ⟨state, held, -⟩ := State.entry_advance_reads (s := s) d a
  exact ⟨state, held⟩

theorem State.stepFrame_sampled (s : State) (zone : Byte) (d : Nat) : StepFrame s (s.sampled zone d) :=
  (s.withZone zone).stepFrame_advance d

theorem State.sameLatch_advance (s : State) (d : Nat) : SameLatch s (s.advance d) := by simp [SameLatch]

theorem State.sameLatch_sampled (s : State) (zone : Byte) (d : Nat) : SameLatch s (s.sampled zone d) :=
  (s.withZone zone).sameLatch_advance d

@[simp] theorem State.sampled_reads (s : State) (zone : Byte) (d : Nat) :
    (s.sampled zone d).port = s.port ∧ (s.sampled zone d).resv.held = s.resv.held ∧
    (s.sampled zone d).memb.state = s.memb.state ∧ (s.sampled zone d).motion.state = s.motion.state ∧
    (s.sampled zone d).motion.p = s.motion.p ∧ (s.sampled zone d).motion.direction = s.motion.direction ∧
    (s.sampled zone d).motion.dirUp = s.motion.dirUp ∧ (s.sampled zone d).motion.reloc = s.motion.reloc := by
  simp [State.sampled]

/-- The engine as time has passed: its timers have run. -/
theorem State.motion_sampled (s : State) (zone : Byte) (d : Nat) : ∃ st sl su pt, (s.sampled zone d).motion =
    { s.motion with stepTimer := st, stallTimer := sl, setupTimer := su, pulseTimer := pt } := ⟨_, _, _, _, rfl⟩

theorem State.stepFits_sampled (s : State) (zone : Byte) (d : Nat) : (s.sampled zone d).stepFits = s.stepFits := by
  simp [State.stepFits, State.candidate]

/-- What the ZONE lines show (R4). -/
def readingOf (c : Config) (zone : Byte) : Option Nat := if zone.toNat < c.z then some zone.toNat else none

theorem State.reading_sampled (s : State) (zone : Byte) (d : Nat) :
    (s.sampled zone d).reading = readingOf s.port.cfg zone := by
  simp [State.reading, State.sampled, State.withZone, readingOf]

/-! ### The pulse and the change of DIR (R121) -/

/-- The engine as the STEP pulse begins (R121). -/
def Motion.pulsing (m : Motion) : Motion :=
  { m with stepHigh := true, pulseTimer := ⟨true, 0⟩, setupTimer := ⟨false, 0⟩ }

/-- The pulse of a step has begun, and the step is not yet counted (R121). -/
structure PulseBegins (s : State) (zone : Byte) (u : State) : Prop where
  motion : ∃ st sl, u.motion = { s.motion.pulsing with stepTimer := st, stallTimer := sl }
  held : u.resv.held = s.resv.held
  port : u.port = s.port
  reading : u.reading = readingOf s.port.cfg zone
  frame : StepFrame s u
  latch : SameLatch s u

theorem State.pulseBegins (s : State) (zone : Byte) (d : Nat) : PulseBegins s zone (s.sampled zone d).beginPulse where
  motion := by
    obtain ⟨st, sl, su, pt, passed⟩ := s.motion_sampled zone d
    refine ⟨st, sl, ?_⟩
    rw [State.beginPulse, State.motion_setMotion, passed]
    rfl
  held := by simp
  port := by simp
  reading := s.reading_sampled zone d
  frame := (s.stepFrame_sampled zone d).congr (by simp) (by simp) (by simp)
  latch := (s.sameLatch_sampled zone d).congr (by simp)

/-- DIR has changed for a step, and its set-up time runs (R121, log 19). -/
structure DirTurns (s t : State) (side : Side) : Prop where
  motion : ∃ st sl pt, t.motion = { s.motion with
    dirUp := side == .up, setupTimer := ⟨true, 0⟩, stepTimer := st, stallTimer := sl, pulseTimer := pt }
  held : t.resv.held = s.resv.held
  frame : StepFrame s t
  latch : SameLatch s t

theorem State.beginStep_of_faces {take : State → State} (faces : s.motion.dirUp = (side == .up)) :
    s.beginStep side take = take s.beginPulse := if_pos faces

theorem State.dirTurns {take : State → State} (turns : s.motion.dirUp ≠ (side == .up)) (still : ¬ s.motion.Claims) :
    DirTurns s ((s.sampled zone d).beginStep side take).kick side := by
  have changes : (s.sampled zone d).beginStep side take =
      (s.sampled zone d).setMotion { (s.sampled zone d).motion with dirUp := side == .up, setupTimer := ⟨true, 0⟩ } :=
    if_neg (by simpa using turns)
  obtain ⟨st, sl, su, pt, passed⟩ := s.motion_sampled zone d
  have still' : ¬ ((s.sampled zone d).beginStep side take).motion.Claims := by
    simpa [changes, Motion.Claims] using still
  exact
    { motion := ⟨st, sl, pt, by rw [State.motion_kick still', changes, State.motion_setMotion, passed]⟩
      held := by simp [changes]
      frame := (s.stepFrame_sampled zone d).congr (by simp [changes]) (by simp [changes]) (by simp [changes])
      latch := (s.sameLatch_sampled zone d).congr (by simp [changes]) }

/-! ### A step of a move (R123 to R126) -/

/-- A step of a move is counted at the position it leads to (R123, R124). -/
def State.counted (u : State) (q : Nat) : State :=
  u.setMotion { u.motion with p := q, mismatch := mismatchAfter u.port.cfg q u.reading u.motion.mismatch }

theorem State.takeMoveStep_eq (candidate : u.candidate = some q) :
    u.takeMoveStep =
      if u.port.cfg.t < (u.counted q).motion.mismatch then (u.counted q).reportFault .tracking
      else (u.counted q).releaseBehind.arriveOrGoOn := by
  unfold State.takeMoveStep
  rw [candidate]
  rfl

/-- The mismatch count after a step to a position (R124). -/
def State.mismatchAt (s : State) (zone : Byte) (q : Nat) : Nat :=
  mismatchAfter s.port.cfg q (readingOf s.port.cfg zone) s.motion.mismatch

theorem PulseBegins.candidate (begun : PulseBegins s zone u) (leads : StepLeadsTo s side q) : u.candidate = some q := by
  obtain ⟨st, sl, motion⟩ := begun.motion
  obtain ⟨direction, up, down, -, -⟩ := leads
  exact State.candidate_of_direction (by rw [motion]; exact direction) (by rw [motion]; exact up) (by rw [motion]; exact down)

/-- The engine as a step of a move is counted. -/
theorem PulseBegins.counted (begun : PulseBegins s zone u) (q : Nat) : ∃ st sl, (u.counted q).motion =
    { s.motion.pulsing with p := q, mismatch := s.mismatchAt zone q, stepTimer := st, stallTimer := sl } := by
  obtain ⟨st, sl, motion⟩ := begun.motion
  refine ⟨st, sl, ?_⟩
  unfold State.counted
  rw [begun.port, begun.reading, State.motion_setMotion, motion]
  rfl

/-- A step of a move has ended in a fault (R124, R134, R142). -/
structure MoveFaults (s t : State) (zone : Byte) (q : Nat) : Prop where
  motion : ∃ last, t.motion =
    { s.motion.lost with state := .halted, p := q, mismatch := s.mismatchAt zone q }.moveOver last
  held : t.resv.held = s.resv.held
  cause : t.fault.cause = some .tracking
  drive : t.driveEn = false
  events : t.port.events = placeEvents s.port.events [.fault .tracking, .moveEnded .fault none]
  frame : StepFrame s t

theorem State.driveEn_of_fault {cause : FaultCause} (latched : t.fault.cause = some cause) : t.driveEn = false := by
  simp [State.driveEn, State.faulted, latched]

theorem PulseBegins.moveFaults (begun : PulseBegins s zone u) (moving : s.motion.state = .moving)
    (leads : StepLeadsTo s side q) (exceeds : s.port.cfg.t < s.mismatchAt zone q) (clear : s.fault.cause = none) :
    MoveFaults s u.takeMoveStep.kick zone q := by
  obtain ⟨st, sl, counted⟩ := begun.counted q
  have faults : u.takeMoveStep = (u.counted q).reportFault .tracking :=
    (State.takeMoveStep_eq (begun.candidate leads)).trans (if_pos (by rw [counted, begun.port]; exact exceeds))
  have clear' : (u.counted q).fault.cause = none := begun.latch.1.trans clear
  obtain ⟨⟨last, motion⟩, events⟩ := State.reportFault_of_moving (s := u.counted q) (r := .tracking) (.inl rfl) clear'
    (by rw [counted]; exact moving)
  obtain ⟨engine, port⟩ := State.kick_keeps_engine (s := u.takeMoveStep) (.inl (by rw [faults, motion]; rfl))
  have cause : u.takeMoveStep.kick.fault.cause = some .tracking := by
    have latched := State.fault_reportFault_of_step (s := u.counted q) (r := .tracking) (.inl rfl) clear'
    simpa [faults, FaultReport.cause] using latched
  exact
    { motion := ⟨last, by rw [engine, faults, motion, counted]; rfl⟩
      held := by simp [faults, State.counted, begun.held]
      cause := cause
      drive := State.driveEn_of_fault cause
      events := by rw [port, faults, events]; simp [State.counted, begun.port, FaultReport.cause]
      frame := begun.frame.congr (by simp) (by simp) (by simp) }

/-! ### Release-behind (R125) -/

theorem State.sameButNeed_releaseBehind (rests : u.motion.Rests) : u.motion.SameButNeed u.releaseBehind.motion := by
  unfold State.releaseBehind
  split
  · split
    · exact State.sameButNeed_release rests _ _
    · exact State.sameButNeed_release rests _ _
    · exact .refl _
  · exact .refl _

/-- What release-behind leaves of H where a step in a direction reaches a position (R125). -/
def keptAhead (c : Config) (q : Nat) (side : Side) (hlo hhi : Nat) : ZRange :=
  if q % c.s = 0 then
    match side with
    | .up => .run (q / c.s) hhi
    | .down => .run hlo ((q + c.w * c.s - 1) / c.s)
  else .run hlo hhi

/-- A carriage that stands in H stands in what release-behind leaves of it (R120, R125). -/
theorem StandsIn.keptAhead {c : Config} {h : ZRange} (stands : StandsIn c q h hlo hhi) (side : Side) :
    ∃ lo hi, StandsIn c q (keptAhead c q side hlo hhi) lo hi := by
  unfold Machine.keptAhead
  split
  · cases side with
    | up => exact ⟨_, _, { stands with held := rfl, low := Nat.le_refl _ }⟩
    | down =>
      exact ⟨_, _, { stands with
        held := rfl, high := Nat.le_refl _, rail := Nat.lt_of_le_of_lt stands.high stands.rail }⟩
  · exact ⟨_, _, { stands with held := rfl }⟩

theorem State.held_releaseBehind (known : u.motion.known = true) (direction : u.motion.direction = some side)
    (stands : StandsIn u.port.cfg u.motion.p u.resv.held hlo hhi) :
    u.releaseBehind.resv.held = keptAhead u.port.cfg u.motion.p side hlo hhi := by
  unfold State.releaseBehind keptAhead
  rw [State.occupied_of_known known stands.legal, direction]
  split
  · cases side with
    | up => exact (State.held_releaseBelow _ _).trans stands.above
    | down => exact (State.held_releaseAbove _ _).trans stands.below
  · exact stands.held

/-! ### The arrival, and a move that goes on (R123, R126) -/

theorem State.arriveOrGoOn_of_arrived (arrived : u.motion.target = some u.motion.p) :
    u.arriveOrGoOn = u.toIdle.endMove .arrived := if_pos arrived

theorem State.arriveOrGoOn_of_away (away : u.motion.target ≠ some u.motion.p) :
    u.arriveOrGoOn = u.updateNeed.setMotion { u.updateNeed.motion with stepTimer := ⟨true, 0⟩ } := if_neg away

/-- The part as a step within the tolerance has been counted, and the zones behind it are released (R123, R125). -/
structure StepCounts (s : State) (zone : Byte) (q : Nat) (side : Side) (v : State) : Prop where
  motion : ∃ st sl need last, v.motion = { s.motion.pulsing with
    p := q, mismatch := s.mismatchAt zone q, stepTimer := st, stallTimer := sl, need := need, lastNeedSide := last }
  held : ∀ hlo hhi, s.motion.known = true → StandsIn s.port.cfg q s.resv.held hlo hhi →
    v.resv.held = keptAhead s.port.cfg q side hlo hhi
  port : v.port = s.port
  frame : StepFrame s v
  latch : SameLatch s v

theorem PulseBegins.stepCounts (begun : PulseBegins s zone u) (moving : s.motion.state = .moving)
    (leads : StepLeadsTo s side q) : StepCounts s zone q side (u.counted q).releaseBehind := by
  obtain ⟨st, sl, counted⟩ := begun.counted q
  obtain ⟨need, last, behind⟩ := State.sameButNeed_releaseBehind (u := u.counted q)
    (Motion.rests_of_moving (by rw [counted]; exact moving))
  have port : (u.counted q).port = s.port := begun.port
  have held : (u.counted q).resv.held = s.resv.held := begun.held
  exact
    { motion := ⟨st, sl, need, last, by rw [behind, counted]⟩
      held := fun hlo hhi known stands => by
        have released := State.held_releaseBehind (u := u.counted q) (side := side) (hlo := hlo) (hhi := hhi)
          (by rw [counted]; exact known) (by rw [counted]; exact leads.1) (by rw [port, held, counted]; exact stands)
        rwa [port, counted] at released
      port := by simp [port]
      frame := begun.frame.congr (by simp [State.counted]) (by simp [State.counted]) (by simp [State.counted])
      latch := begun.latch.congr (by simp [State.counted]) }

theorem PulseBegins.takeMoveStep_within (begun : PulseBegins s zone u) (leads : StepLeadsTo s side q)
    (within : s.mismatchAt zone q ≤ s.port.cfg.t) : u.takeMoveStep = (u.counted q).releaseBehind.arriveOrGoOn := by
  obtain ⟨st, sl, counted⟩ := begun.counted q
  exact (State.takeMoveStep_eq (begun.candidate leads)).trans
    (if_neg (Nat.not_lt.2 (by rw [counted, begun.port]; exact within)))

/-- A step of a move has reached the target (R126, R134). -/
structure MoveArrives (s t : State) (zone : Byte) (q : Nat) : Prop where
  motion : ∃ last, t.motion =
    { s.motion.pulsing with state := .idle, p := q, mismatch := s.mismatchAt zone q }.moveOver last
  held : ∀ hlo hhi, s.motion.known = true → StandsIn s.port.cfg q s.resv.held hlo hhi →
    t.resv.held = bodyAt s.port.cfg q
  events : t.port.events =
    placeEvent s.port.events (.moveEnded .arrived (if s.motion.known then some q else none))
  frame : StepFrame s t
  latch : SameLatch s t

theorem PulseBegins.moveArrives (begun : PulseBegins s zone u) (moving : s.motion.state = .moving)
    (leads : StepLeadsTo s side q) (within : s.mismatchAt zone q ≤ s.port.cfg.t) (arrives : s.motion.target = some q) :
    MoveArrives s u.takeMoveStep.kick zone q := by
  have taken := begun.takeMoveStep_within leads within
  have counts := begun.stepCounts moving leads
  generalize (u.counted q).releaseBehind = v at taken counts
  obtain ⟨st, sl, need, last, counted⟩ := counts.motion
  rw [taken, State.arriveOrGoOn_of_arrived (by rw [counted]; exact arrives)]
  obtain ⟨⟨dir, fault, memb⟩, ⟨side', motion⟩, held, events⟩ := v.moveEnds_endMove .arrived
  exact
    { motion := ⟨side', by rw [motion, State.toIdle, State.motion_setMotion, counted]; rfl⟩
      held := fun hlo hhi known stands => by
        obtain ⟨lo, hi, stands'⟩ := stands.keptAhead side
        have trimmed := State.held_trim_of_stands (s := v) (hlo := lo) (hhi := hi) (by rw [counted]; exact known)
          (by rw [counts.port, counts.held hlo hhi known stands, counted]; exact stands')
        rw [held, trimmed, counts.port, counted]
      events := by rw [events, counts.port, State.knownPosition, counted]; rfl
      frame := counts.frame.congr dir memb (by simp [State.toIdle])
      latch := counts.latch.congr fault }

/-- A step of a move has been counted, and the move goes on (R123, R125). -/
structure MoveGoesOn (s t : State) (zone : Byte) (q : Nat) (side : Side) : Prop where
  motion : ∃ sl need last, t.motion = { s.motion.pulsing with
    p := q, mismatch := s.mismatchAt zone q, stepTimer := ⟨true, 0⟩, stallTimer := sl, need := need, lastNeedSide := last }
  held : ∀ hlo hhi, s.motion.known = true → StandsIn s.port.cfg q s.resv.held hlo hhi →
    t.resv.held = keptAhead s.port.cfg q side hlo hhi
  frame : StepFrame s t
  latch : SameLatch s t

theorem PulseBegins.moveGoesOn (begun : PulseBegins s zone u) (moving : s.motion.state = .moving)
    (leads : StepLeadsTo s side q) (within : s.mismatchAt zone q ≤ s.port.cfg.t) (away : s.motion.target ≠ some q) :
    MoveGoesOn s u.takeMoveStep.kick zone q side := by
  have taken := begun.takeMoveStep_within leads within
  have counts := begun.stepCounts moving leads
  generalize (u.counted q).releaseBehind = v at taken counts
  obtain ⟨st, sl, need, last, counted⟩ := counts.motion
  rw [taken, State.arriveOrGoOn_of_away (by rw [counted]; exact away)]
  obtain ⟨side', fresh⟩ := v.motion_updateNeed
  have other : v.motion.state ≠ .relocating := by
    rw [counted]
    exact fun relocating => absurd (moving.symm.trans relocating) nofun
  exact
    { motion := ⟨sl, v.computeNeed, side', by
        rw [State.motion_kick (Motion.not_claims_of_state (by simpa using other)), State.motion_setMotion, fresh, counted]⟩
      held := fun hlo hhi known stands => by simpa using counts.held hlo hhi known stands
      frame := counts.frame.congr (by simp) (by simp) (by simp)
      latch := counts.latch.congr (by simp) }

/-! ### A step of a move that does not fit (R129) -/

/-- The move is stalled (R129). -/
structure MoveStalls (s t : State) : Prop where
  motion : ∃ su pt, t.motion = { s.motion with
    state := .stalled, stepTimer := ⟨false, 0⟩, stallTimer := ⟨true, 0⟩, setupTimer := su, pulseTimer := pt }
  held : t.resv.held = s.resv.held
  frame : StepFrame s t
  latch : SameLatch s t

theorem State.moveStalls (s : State) (zone : Byte) (d : Nat) : MoveStalls s (s.sampled zone d).enterStalled.kick := by
  obtain ⟨st, sl, su, pt, passed⟩ := s.motion_sampled zone d
  have still : ¬ (s.sampled zone d).enterStalled.motion.Claims :=
    Motion.not_claims_of_state (by simp [State.enterStalled])
  exact
    { motion := ⟨su, pt, by rw [State.motion_kick still, State.enterStalled, State.motion_setMotion, passed]; rfl⟩
      held := by simp
      frame := (s.stepFrame_sampled zone d).congr (by simp) (by simp) (by simp)
      latch := (s.sameLatch_sampled zone d).congr (by simp) }

/-! ### STEP_EVENT (R121, R123) -/

/-- The step timer of a move has run out, and no step waits for DIR (R123). -/
structure State.StepDue (s : State) : Prop where
  moving : s.motion.state = .moving
  runs : s.motion.stepTimer.running = true
  still : s.motion.setupTimer.running = false

theorem exec_stepEvent_of_due (due : s.StepDue) (zone : Byte) : ∃ d, exec (.stepEvent zone) s = .next
      (if s.stepFits then (s.sampled zone d).beginStep (s.motion.direction.getD .up) State.takeMoveStep
        else (s.sampled zone d).enterStalled).kick := by
  refine ⟨(s.withZone zone).motion.stepTimer.remaining (s.withZone zone).port.cfg.stepPeriod, ?_⟩
  rw [← s.stepFits_sampled zone]
  exact congrArg Host.Outcome.next (if_pos ⟨due.moving, due.runs, due.still⟩)

theorem stepEvent_stalls (due : s.StepDue) (unfit : s.stepFits = false) : Completes (.stepEvent zone) s (MoveStalls s) := by
  obtain ⟨d, stalls⟩ := exec_stepEvent_of_due due zone
  exact ⟨_, stalls, by simpa [unfit] using s.moveStalls zone d⟩

theorem exec_stepEvent_of_leads (due : s.StepDue) (leads : StepLeadsTo s side q) (zone : Byte) :
    ∃ d, exec (.stepEvent zone) s = .next ((s.sampled zone d).beginStep side State.takeMoveStep).kick := by
  obtain ⟨d, steps⟩ := exec_stepEvent_of_due due zone
  have fits : s.stepFits = true := leads.fits
  exact ⟨d, by simpa [fits, leads.1] using steps⟩

/-- A step event in another direction than DIR shows changes DIR (R121). -/
theorem stepEvent_turns (due : s.StepDue) (leads : StepLeadsTo s side q) (turns : s.motion.dirUp ≠ (side == .up)) :
    Completes (.stepEvent zone) s fun t => DirTurns s t side := by
  obtain ⟨d, steps⟩ := exec_stepEvent_of_leads due leads zone
  exact ⟨_, steps, State.dirTurns turns (Motion.not_claims_of_state (by simp [due.moving]))⟩

/-- A step event in the direction DIR shows takes the step at once (R121). -/
theorem stepEvent_takes {P : State → Prop} (due : s.StepDue) (leads : StepLeadsTo s side q)
    (faces : s.motion.dirUp = (side == .up)) (outcome : ∀ u, PulseBegins s zone u → P u.takeMoveStep.kick) :
    Completes (.stepEvent zone) s P := by
  obtain ⟨d, steps⟩ := exec_stepEvent_of_leads due leads zone
  rw [State.beginStep_of_faces (by simpa using faces)] at steps
  exact ⟨_, steps, outcome _ (s.pulseBegins zone d)⟩

/-- The carriage that a step leads to stands in H (R123). -/
theorem StepLeadsTo.stands (leads : StepLeadsTo s side q) (steps : 0 < s.port.cfg.s) (wide : 0 < s.port.cfg.w)
    (held : s.resv.held = .run hlo hhi) (rail : hhi < s.port.cfg.z) :
    StandsIn s.port.cfg q s.resv.held hlo hhi := by
  obtain ⟨-, -, -, legal, inside⟩ := leads
  exact .of_inside steps wide legal held rail inside

end

end Sys2Proof.Machine

namespace Sys2Proof
open Machine

/-- Settles O49: a step event stalls the move, changes DIR, or takes the step, and a step taken faults, arrives or goes on. -/
theorem stepEventMovesTheCarriage : Obligations.StepEventMovesTheCarriage := by
  intro s zone side q hlo hhi c ready reading count faces onRail body frame
  refine ⟨?stalls, ?turns, ?faults, ?arrives, ?goesOn⟩
  case stalls =>
    rintro ⟨moving, runs, still, -⟩ direction blocked up down
    obtain ⟨t, next, ⟨su, pt, motion⟩, held, frame, latch⟩ := stepEvent_stalls (s := s) (zone := zone)
      ⟨moving, runs, still⟩ (StepLeadsTo.unfit blocked direction up down)
    exact ⟨t, next, frame, by simp [motion, held, latch]⟩
  case turns =>
    rintro ⟨moving, runs, still, -⟩ leads turns
    obtain ⟨t, next, ⟨st, sl, pt, motion⟩, held, frame, latch⟩ := stepEvent_turns (s := s) (zone := zone)
      ⟨moving, runs, still⟩ leads turns
    exact ⟨t, next, frame, by simp [motion, held, latch, moving]⟩
  case faults =>
    rintro ⟨moving, runs, still, -⟩ leads facing exceeds clear
    obtain ⟨t, next, ⟨last, motion⟩, held, cause, drive, events, frame⟩ := stepEvent_takes
      (P := fun t => MoveFaults s t zone q) ⟨moving, runs, still⟩ leads facing fun u begun => begun.moveFaults moving leads exceeds clear
    exact ⟨t, next, frame, by simp [motion, Motion.moveOver, Motion.lost, held, cause, drive, events]⟩
  case arrives =>
    rintro ⟨moving, runs, still, known, steps, wide⟩ leads facing within ⟨held, rail⟩ arrives
    obtain ⟨t, next, ⟨last, motion⟩, trims, events, frame, latch⟩ := stepEvent_takes
      (P := fun t => MoveArrives s t zone q) ⟨moving, runs, still⟩ leads facing fun u begun => begun.moveArrives moving leads within arrives
    have trimmed := trims hlo hhi known (leads.stands steps wide held rail)
    exact ⟨t, next, frame, by simp [motion, Motion.moveOver, Motion.pulsing, known, trimmed, latch, events, body, c]⟩
  case goesOn =>
    rintro ⟨moving, runs, still, known, steps, wide⟩ leads facing within ⟨held, rail⟩ away
    obtain ⟨t, next, ⟨sl, need, last, motion⟩, keeps, frame, latch⟩ := stepEvent_takes
      (P := fun t => MoveGoesOn s t zone q side) ⟨moving, runs, still⟩ leads facing fun u begun => begun.moveGoesOn moving leads within away
    have kept := keeps hlo hhi known (leads.stands steps wide held rail)
    refine ⟨t, next, frame, ?_⟩
    have counts : s.mismatchAt zone q = count := rfl
    cases side <;> simp [motion, Motion.pulsing, moving, known, latch, kept, held, counts, keptAhead, c]

end Sys2Proof

/-! PROOFS. The steps of a relocate, the pulse and the stall timer (R121, R130, R134, R139, R140, R142). -/

namespace Sys2Proof.Machine

section
variable {s t u : State} {zone : Byte} {d p q hlo hhi : Nat} {side : Side} {y : RelocRecord}

/-! ### What a reading after a relocate step shows (R139) -/

/-- The ZONE lines show the zone beyond the boundary (R139). -/
def SeesBoundary (c : Config) (y : RelocRecord) (zone : Byte) : Prop :=
  zone.toNat < c.z ∧ (match y.side with | .down => zone.toNat + 1 = y.k | .up => zone.toNat = y.k + 1)

/-- The ZONE lines show the starting zone or nothing (R139). -/
def SeesNothing (c : Config) (y : RelocRecord) (zone : Byte) : Prop := ¬ zone.toNat < c.z ∨ zone.toNat = y.k

theorem relocReading_of_boundary {c : Config} (sees : SeesBoundary c y zone) :
    relocReading y.k y.side (readingOf c zone) = .boundary := by
  obtain ⟨readable, beyond⟩ := sees
  cases on : y.side with
  | down => simp only [on] at beyond; simp [relocReading, readingOf, readable, beyond]
  | up => simp only [on] at beyond; simp [relocReading, readingOf, beyond, beyond ▸ readable]

theorem relocReading_of_nothing {c : Config} (sees : SeesNothing c y zone) :
    relocReading y.k y.side (readingOf c zone) = .searching := by
  by_cases readable : zone.toNat < c.z
  · have start : zone.toNat = y.k := sees.resolve_left (not_not_intro readable)
    rw [start] at readable
    cases y.side <;> simp [relocReading, readingOf, readable, start]
  · cases y.side <;> simp [relocReading, readingOf, readable]

theorem relocReading_of_wrong {c : Config} (beyond : ¬ SeesBoundary c y zone) (other : ¬ SeesNothing c y zone) :
    relocReading y.k y.side (readingOf c zone) = .wrong := by
  obtain ⟨readable, start⟩ : zone.toNat < c.z ∧ zone.toNat ≠ y.k := by simpa [SeesNothing] using other
  cases on : y.side <;> simp only [SeesBoundary, on, readable, true_and] at beyond <;>
    simp [relocReading, readingOf, readable, beyond, start]

/-! ### A step of a relocate (R139, R140) -/

/-- The record of a relocate with one step more (R139). -/
def RelocRecord.stepped (y : RelocRecord) : RelocRecord := { y with steps := y.steps + 1 }

/-- A relocate in STEPPING (R135, R139). -/
structure State.RelocSteps (s : State) (y : RelocRecord) : Prop where
  relocating : s.motion.state = .relocating
  record : s.motion.reloc = some y
  stepping : y.phase = .stepping

theorem State.RelocSteps.not_claims (steps : s.RelocSteps y) : ¬ s.motion.Claims :=
  Motion.not_claims_of_stepping steps.record steps.stepping

/-- The part as a step of a relocate is counted. -/
def State.relocCounted (u : State) (y : RelocRecord) : State :=
  u.setMotion { u.motion with reloc := some y.stepped }

theorem State.takeRelocStep_eq (record : u.motion.reloc = some y) :
    u.takeRelocStep =
      match relocReading y.k y.side u.reading with
      | .boundary =>
        if fixedPosition u.port.cfg y.k y.side ≤ maxPosition u.port.cfg then
          (u.relocCounted y).relocateDone (fixedPosition u.port.cfg y.k y.side)
        else (u.relocCounted y).reportFault .tracking
      | .searching =>
        if u.port.cfg.s + u.port.cfg.t ≤ y.steps + 1 then (u.relocCounted y).reportFault .relocateLimit
        else (u.relocCounted y).setMotion { (u.relocCounted y).motion with stepTimer := ⟨true, 0⟩ }
      | .wrong => (u.relocCounted y).reportFault .tracking := by
  unfold State.takeRelocStep
  rw [record]
  rfl

/-- The engine as a step of a relocate is counted. -/
theorem PulseBegins.relocCounted (begun : PulseBegins s zone u) (y : RelocRecord) : ∃ st sl, (u.relocCounted y).motion =
    { s.motion.pulsing with reloc := some y.stepped, stepTimer := st, stallTimer := sl } := by
  obtain ⟨st, sl, motion⟩ := begun.motion
  exact ⟨st, sl, by rw [State.relocCounted, State.motion_setMotion, motion]⟩

theorem PulseBegins.record (begun : PulseBegins s zone u) (steps : s.RelocSteps y) : u.motion.reloc = some y := by
  obtain ⟨st, sl, motion⟩ := begun.motion
  rw [motion]
  exact steps.record

/-- A relocate has ended in a fault (R139 to R142). -/
structure RelocFaults (s t : State) (y : RelocRecord) (why : FaultCause) : Prop where
  motion : ∃ sl, t.motion = { s.motion.lost.relocOver .halted with stallTimer := sl }
  held : t.resv.held = s.resv.held
  cause : t.fault.cause = some why
  drive : t.driveEn = false
  events : t.port.events = placeEvents s.port.events [.fault why, .relocateEnded .fault y.k]
  frame : StepFrame s t

theorem PulseBegins.relocFaults {r : FaultReport} (begun : PulseBegins s zone u) (steps : s.RelocSteps y)
    (ofStep : r.OfAStep) (faults : u.takeRelocStep = (u.relocCounted y).reportFault r) (clear : s.fault.cause = none) :
    RelocFaults s u.takeRelocStep.kick y r.cause := by
  obtain ⟨st, sl, counted⟩ := begun.relocCounted y
  have clear' : (u.relocCounted y).fault.cause = none := begun.latch.1.trans clear
  obtain ⟨motion, events⟩ := State.reportFault_of_relocating (s := u.relocCounted y) (y := y.stepped) ofStep clear'
    (by rw [counted]; exact steps.relocating) rfl
  obtain ⟨engine, port⟩ := State.kick_keeps_engine (s := u.takeRelocStep) (.inl (by rw [faults, motion]; rfl))
  have cause : u.takeRelocStep.kick.fault.cause = some r.cause := by
    simpa [faults] using State.fault_reportFault_of_step (s := u.relocCounted y) ofStep clear'
  exact
    { motion := ⟨sl, by rw [engine, faults, motion, counted]; rfl⟩
      held := by simp [faults, State.relocCounted, begun.held]
      cause := cause
      drive := State.driveEn_of_fault cause
      events := by rw [port, faults, events]; simp [State.relocCounted, begun.port, RelocRecord.stepped]
      frame := begun.frame.congr (by simp) (by simp) (by simp) }

/-- A boundary seen where no carriage can stand, or another zone, loses track (R139). -/
theorem PulseBegins.relocLosesTrack (begun : PulseBegins s zone u) (steps : s.RelocSteps y)
    (lost : (SeesBoundary s.port.cfg y zone ∧ maxPosition s.port.cfg < fixedPosition s.port.cfg y.k y.side) ∨
      (¬ SeesBoundary s.port.cfg y zone ∧ ¬ SeesNothing s.port.cfg y zone)) (clear : s.fault.cause = none) :
    RelocFaults s u.takeRelocStep.kick y .tracking := by
  refine begun.relocFaults steps (.inl rfl) ?_ clear
  rw [State.takeRelocStep_eq (begun.record steps), begun.reading, begun.port]
  rcases lost with ⟨beyond, far⟩ | ⟨beyond, other⟩
  · rw [relocReading_of_boundary beyond]
    exact if_neg (Nat.not_le.2 far)
  · rw [relocReading_of_wrong beyond other]

/-- A search of S + T steps is given up (R140). -/
theorem PulseBegins.relocReachesLimit (begun : PulseBegins s zone u) (steps : s.RelocSteps y)
    (sees : SeesNothing s.port.cfg y zone) (limit : s.port.cfg.s + s.port.cfg.t ≤ y.steps + 1)
    (clear : s.fault.cause = none) : RelocFaults s u.takeRelocStep.kick y .relocateLimit := by
  refine begun.relocFaults steps (.inr rfl) ?_ clear
  rw [State.takeRelocStep_eq (begun.record steps), begun.reading, begun.port, relocReading_of_nothing sees]
  exact if_pos limit

/-- The search for the boundary goes on (R139). -/
structure RelocSearches (s t : State) (y : RelocRecord) : Prop where
  motion : ∃ sl, t.motion =
    { s.motion.pulsing with reloc := some y.stepped, stepTimer := ⟨true, 0⟩, stallTimer := sl }
  held : t.resv.held = s.resv.held
  frame : StepFrame s t
  latch : SameLatch s t

theorem PulseBegins.relocSearches (begun : PulseBegins s zone u) (steps : s.RelocSteps y)
    (sees : SeesNothing s.port.cfg y zone) (more : y.steps + 1 < s.port.cfg.s + s.port.cfg.t) :
    RelocSearches s u.takeRelocStep.kick y := by
  have taken : u.takeRelocStep =
      (u.relocCounted y).setMotion { (u.relocCounted y).motion with stepTimer := ⟨true, 0⟩ } := by
    rw [State.takeRelocStep_eq (begun.record steps), begun.reading, begun.port, relocReading_of_nothing sees]
    exact if_neg (Nat.not_le.2 more)
  obtain ⟨st, sl, counted⟩ := begun.relocCounted y
  have still : ¬ u.takeRelocStep.motion.Claims :=
    Motion.not_claims_of_stepping (y := y.stepped) (by rw [taken, State.motion_setMotion, counted]) steps.stepping
  exact
    { motion := ⟨sl, by rw [State.motion_kick still, taken, State.motion_setMotion, counted]⟩
      held := by simp [taken, State.relocCounted, begun.held]
      frame := begun.frame.congr (by simp) (by simp) (by simp)
      latch := begun.latch.congr (by simp [taken, State.relocCounted]) }

/-- The boundary has fixed the position, and the carriage is at rest there (R139). -/
structure RelocFixes (s t : State) (p : Nat) : Prop where
  motion : ∃ sl last, t.motion = { s.motion.pulsing with
    p := p, known := true, mismatch := 0, state := .idle, stepTimer := ⟨false, 0⟩, reloc := none, need := none,
    stallTimer := sl, lastNeedSide := last }
  held : ∀ hlo hhi, StandsIn s.port.cfg p s.resv.held hlo hhi → t.resv.held = bodyAt s.port.cfg p
  events : t.port.events = placeEvent s.port.events (.relocateDone p (p / s.port.cfg.s))
  frame : StepFrame s t
  latch : SameLatch s t

/-- The engine gives up its relocate record, and any need with it (R139). -/
theorem State.relocateDone_eq (u : State) (p : Nat) : u.relocateDone p =
    let w := (u.placeAt p).trim.orphanClaim.queueEvent (.relocateDone p (p / u.port.cfg.s))
    (w.setMotion { w.motion with reloc := none }).updateNeed := rfl

theorem State.motion_relocateDone (u : State) (p : Nat) : ∃ last, (u.relocateDone p).motion = { u.motion.stopStepping with
    p := p, known := true, mismatch := 0, state := .idle, reloc := none, need := none, lastNeedSide := last } := by
  obtain ⟨need, last, trims⟩ := State.sameButNeed_trim (s := u.placeAt p) (Motion.rests_of_idle rfl)
  obtain ⟨w, eq⟩ : ∃ w, w = (u.placeAt p).trim.orphanClaim.queueEvent (.relocateDone p (p / u.port.cfg.s)) := ⟨_, rfl⟩
  have motion : w.motion = { (u.placeAt p).motion with need := need, lastNeedSide := last } := by
    rw [eq, ← trims]
    simp
  obtain ⟨side, fresh⟩ := (w.setMotion { w.motion with reloc := none }).motion_updateNeed
  have none : (w.setMotion { w.motion with reloc := none }).computeNeed = none :=
    State.computeNeed_of_idle (by rw [State.motion_setMotion, motion]; rfl)
  refine ⟨side, ?_⟩
  rw [State.relocateDone_eq, ← eq]
  dsimp only
  rw [fresh, none, State.motion_setMotion, motion]
  rfl

theorem State.held_relocateDone (stands : StandsIn u.port.cfg p u.resv.held hlo hhi) :
    (u.relocateDone p).resv.held = bodyAt u.port.cfg p := by
  have trimmed : (u.placeAt p).trim.resv.held = bodyAt u.port.cfg p :=
    State.held_trim_of_stands (s := u.placeAt p) rfl stands
  rw [State.relocateDone_eq]
  simpa using trimmed

theorem State.events_relocateDone (u : State) (p : Nat) :
    (u.relocateDone p).port.events = placeEvent u.port.events (.relocateDone p (p / u.port.cfg.s)) := by
  rw [State.relocateDone_eq]
  simp [State.queueEvent, State.placeAt]

theorem PulseBegins.relocFixes (begun : PulseBegins s zone u) (steps : s.RelocSteps y)
    (sees : SeesBoundary s.port.cfg y zone)
    (legal : fixedPosition s.port.cfg y.k y.side ≤ maxPosition s.port.cfg) :
    RelocFixes s u.takeRelocStep.kick (fixedPosition s.port.cfg y.k y.side) := by
  obtain ⟨p, at_⟩ : ∃ p, fixedPosition s.port.cfg y.k y.side = p := ⟨_, rfl⟩
  have taken : u.takeRelocStep = (u.relocCounted y).relocateDone p := by
    rw [State.takeRelocStep_eq (begun.record steps), begun.reading, begun.port, relocReading_of_boundary sees, ← at_]
    exact if_pos legal
  obtain ⟨st, sl, counted⟩ := begun.relocCounted y
  obtain ⟨last, motion⟩ := (u.relocCounted y).motion_relocateDone p
  obtain ⟨engine, port⟩ := State.kick_keeps_engine (s := u.takeRelocStep) (.inl (by rw [taken, motion]))
  have port' : (u.relocCounted y).port = s.port := begun.port
  have held' : (u.relocCounted y).resv.held = s.resv.held := begun.held
  rw [at_]
  exact
    { motion := ⟨sl, last, by rw [engine, taken, motion, counted]; rfl⟩
      held := fun hlo hhi stands => by
        have trimmed := State.held_relocateDone (u := u.relocCounted y) (by rw [port', held']; exact stands)
        simpa [taken, port'] using trimmed
      events := by rw [port, taken, State.events_relocateDone, port']
      frame := begun.frame.congr (by simp) (by simp) (by simp)
      latch := begun.latch.congr (by simp [taken, State.relocCounted]) }

/-! ### RELOCATE_STEP_EVENT (R121, R139) -/

/-- The step timer of a relocate has run out, and no step waits for DIR (R139). -/
structure State.RelocStepDue (s : State) (y : RelocRecord) : Prop extends s.RelocSteps y where
  runs : s.motion.stepTimer.running = true
  still : s.motion.setupTimer.running = false

theorem exec_relocateStepEvent_of_due (due : s.RelocStepDue y) (zone : Byte) : ∃ d,
    exec (.relocateStepEvent zone) s = .next ((s.sampled zone d).beginStep y.side State.takeRelocStep).kick := by
  refine ⟨(s.withZone zone).motion.stepTimer.remaining (s.withZone zone).port.cfg.stepPeriod, ?_⟩
  change execRelocateStepEvent zone s = _
  unfold execRelocateStepEvent
  rw [due.record]
  exact congrArg Host.Outcome.next (if_pos ⟨due.relocating, due.stepping, due.runs, due.still⟩)

theorem relocateStepEvent_turns (due : s.RelocStepDue y) (turns : s.motion.dirUp ≠ (y.side == .up)) :
    Completes (.relocateStepEvent zone) s fun t => DirTurns s t y.side := by
  obtain ⟨d, steps⟩ := exec_relocateStepEvent_of_due due zone
  exact ⟨_, steps, State.dirTurns turns due.not_claims⟩

theorem relocateStepEvent_takes {P : State → Prop} (due : s.RelocStepDue y) (faces : s.motion.dirUp = (y.side == .up))
    (outcome : ∀ u, PulseBegins s zone u → P u.takeRelocStep.kick) : Completes (.relocateStepEvent zone) s P := by
  obtain ⟨d, steps⟩ := exec_relocateStepEvent_of_due due zone
  rw [State.beginStep_of_faces (by simpa using faces)] at steps
  exact ⟨_, steps, outcome _ (s.pulseBegins zone d)⟩

/-! ### STEP_PULSE_START, STEP_PULSE_END and STALL_TIMER_EXPIRY (R121, R130) -/

theorem exec_stepPulseStart_of_runs (runs : s.motion.setupTimer.running = true) (zone : Byte) : ∃ d,
    (s.motion.state = .moving →
      exec (.stepPulseStart zone) s = .next (s.sampled zone d).beginPulse.takeMoveStep.kick) ∧
    (s.motion.state = .relocating →
      exec (.stepPulseStart zone) s = .next (s.sampled zone d).beginPulse.takeRelocStep.kick) := by
  refine ⟨(s.withZone zone).motion.setupTimer.remaining dirSetupTime, ?_⟩
  have same : ((s.withZone zone).advance ((s.withZone zone).motion.setupTimer.remaining dirSetupTime)).beginPulse.motion.state =
      s.motion.state := rfl
  change (_ → execStepPulseStart zone s = _) ∧ (_ → execStepPulseStart zone s = _)
  unfold execStepPulseStart
  rw [if_pos runs]
  dsimp only
  rw [same]
  exact ⟨fun moving => by rw [moving]; rfl, fun relocating => by rw [relocating]; rfl⟩

theorem stepPulseStart_moves {P : State → Prop} (runs : s.motion.setupTimer.running = true)
    (moving : s.motion.state = .moving) (outcome : ∀ u, PulseBegins s zone u → P u.takeMoveStep.kick) :
    Completes (.stepPulseStart zone) s P := by
  obtain ⟨d, moves, -⟩ := exec_stepPulseStart_of_runs runs zone
  exact ⟨_, moves moving, outcome _ (s.pulseBegins zone d)⟩

theorem stepPulseStart_relocates {P : State → Prop} (runs : s.motion.setupTimer.running = true)
    (relocating : s.motion.state = .relocating) (outcome : ∀ u, PulseBegins s zone u → P u.takeRelocStep.kick) :
    Completes (.stepPulseStart zone) s P := by
  obtain ⟨d, -, relocates⟩ := exec_stepPulseStart_of_runs runs zone
  exact ⟨_, relocates relocating, outcome _ (s.pulseBegins zone d)⟩

/-- The pulse ends after its width, and nothing but time has changed besides (R121). -/
theorem exec_stepPulseEnd_of_high (high : s.motion.stepHigh = true) : ∃ d, exec .stepPulseEnd s =
    .next ((s.advance d).setMotion { (s.advance d).motion with stepHigh := false, pulseTimer := ⟨false, 0⟩ }) :=
  ⟨_, congrArg Host.Outcome.next (if_pos high)⟩

/-- The stall limit ends the stalled move in IDLE (R130, R134). -/
theorem exec_stallTimerExpiry_of_stalled (stalled : s.motion.state = .stalled) (runs : s.motion.stallTimer.running = true) :
    ∃ d, exec .stallTimerExpiry s = .next ((s.advance d).toIdle.endMove .blocked).kick :=
  ⟨_, congrArg Host.Outcome.next (if_pos ⟨stalled, runs⟩)⟩

end

end Sys2Proof.Machine

namespace Sys2Proof
open Machine

/-- Settles O50: a relocate step changes DIR, fixes the position at the boundary, goes on searching, or faults. -/
theorem relocateStepFindsTheBoundary : Obligations.RelocateStepFindsTheBoundary := by
  intro s zone r hlo hhi c ready faces z readable boundary searching p frame faulted
  have faults (why : FaultCause) (t : State) (ends : RelocFaults s t r why) : faulted why t := by
    obtain ⟨⟨sl, motion⟩, held, cause, -, events, frame⟩ := ends
    exact ⟨frame, by simp [motion, Motion.relocOver, Motion.lost, held, cause, events]⟩
  refine ⟨?turns, ?fixes, ?far, ?searches, ?limit, ?wrong⟩
  case turns =>
    rintro ⟨relocating, record, stepping, runs, still⟩ turns
    obtain ⟨t, next, ⟨st, sl, pt, motion⟩, held, frame, -⟩ :=
      relocateStepEvent_turns (zone := zone) ⟨⟨relocating, record, stepping⟩, runs, still⟩ turns
    exact ⟨t, next, frame, by simp [motion, held, relocating, record]⟩
  case fixes =>
    rintro ⟨relocating, record, stepping, runs, still⟩ facing sees legal steps wide held rail inside
    obtain ⟨t, next, ⟨sl, last, motion⟩, trims, events, frame, latch⟩ := relocateStepEvent_takes
      (P := fun t => RelocFixes s t p) ⟨⟨relocating, record, stepping⟩, runs, still⟩ facing
      fun u begun => begun.relocFixes ⟨relocating, record, stepping⟩ sees legal
    have trimmed := trims hlo hhi (.of_inside steps wide legal held rail inside)
    exact ⟨t, next, frame, by simp [motion, Motion.pulsing, trimmed, latch, events, c]⟩
  case far =>
    rintro ⟨relocating, record, stepping, runs, still⟩ facing sees far clear
    exact relocateStepEvent_takes ⟨⟨relocating, record, stepping⟩, runs, still⟩ facing fun u begun =>
      faults _ _ (begun.relocLosesTrack ⟨relocating, record, stepping⟩ (.inl ⟨sees, far⟩) clear)
  case searches =>
    rintro ⟨relocating, record, stepping, runs, still⟩ facing sees more
    obtain ⟨t, next, ⟨sl, motion⟩, held, frame, latch⟩ := relocateStepEvent_takes
      (P := fun t => RelocSearches s t r) ⟨⟨relocating, record, stepping⟩, runs, still⟩ facing
      fun u begun => begun.relocSearches ⟨relocating, record, stepping⟩ sees more
    exact ⟨t, next, frame, by simp [motion, Motion.pulsing, RelocRecord.stepped, relocating, held, latch]⟩
  case limit =>
    rintro ⟨relocating, record, stepping, runs, still⟩ facing sees limit clear
    exact relocateStepEvent_takes ⟨⟨relocating, record, stepping⟩, runs, still⟩ facing fun u begun =>
      faults _ _ (begun.relocReachesLimit ⟨relocating, record, stepping⟩ sees limit clear)
  case wrong =>
    rintro ⟨relocating, record, stepping, runs, still⟩ facing beyond other clear
    exact relocateStepEvent_takes ⟨⟨relocating, record, stepping⟩, runs, still⟩ facing fun u begun =>
      faults _ _ (begun.relocLosesTrack ⟨relocating, record, stepping⟩ (.inr ⟨beyond, other⟩) clear)

/-- Settles O51: the pulse takes the step that waited for DIR, and then ends; the stall limit ends a stalled move. -/
theorem pulseAndStallTimersRunOut : Obligations.PulseAndStallTimersRunOut := by
  intro s zone side q r hlo hhi c h z readable reading count onRail moves relocates boundary searching p frame halted lost
  have counts : s.mismatchAt zone q = count := rfl
  have framed (t : State) (kept : StepFrame s t) (dir : t.motion.dirUp = s.motion.dirUp)
      (stopped : t.motion.setupTimer.running = false) : frame t := by
    obtain ⟨eviction, member, config, entries⟩ := kept
    exact ⟨eviction, member, config, dir, stopped, entries⟩
  have loses (why : FaultCause) (t : State) (ends : RelocFaults s t r why) : lost why t := by
    obtain ⟨⟨sl, motion⟩, held, cause, drive, events, kept⟩ := ends
    exact ⟨⟨framed t kept (by rw [motion]; rfl) (by rw [motion]; rfl),
      by simp [motion, Motion.relocOver, Motion.lost, Motion.cutPulse, held, cause, drive, h]⟩, by rw [motion]; rfl, events⟩
  refine ⟨?faults, ?within, ?arrives, ?goesOn, ?fixes, ?far, ?searches, ?limit, ?wrong, ?ends, ?expires⟩
  case faults =>
    rintro ⟨runs, moving, leads⟩ exceeds clear
    obtain ⟨t, next, ⟨last, motion⟩, held, cause, drive, events, kept⟩ := stepPulseStart_moves
      (P := fun t => MoveFaults s t zone q) runs moving fun u begun => begun.moveFaults moving leads exceeds clear
    exact ⟨t, next, ⟨framed t kept (by rw [motion]; rfl) (by rw [motion]; rfl),
      by simp [motion, Motion.moveOver, Motion.lost, Motion.cutPulse, held, cause, drive, h]⟩,
      by simp [motion, Motion.moveOver, Motion.lost, events]⟩
  case within =>
    rintro ⟨runs, moving, leads⟩ within
    by_cases arrives : s.motion.target = some q
    · obtain ⟨t, next, ⟨last, motion⟩, -, -, kept, latch⟩ := stepPulseStart_moves
        (P := fun t => MoveArrives s t zone q) runs moving fun u begun => begun.moveArrives moving leads within arrives
      exact ⟨t, next, framed t kept (by rw [motion]; rfl) (by rw [motion]; rfl),
        by simp [motion, Motion.moveOver, Motion.pulsing, counts, latch, arrives]⟩
    · obtain ⟨t, next, ⟨sl, need, last, motion⟩, -, kept, latch⟩ := stepPulseStart_moves
        (P := fun t => MoveGoesOn s t zone q side) runs moving fun u begun => begun.moveGoesOn moving leads within arrives
      exact ⟨t, next, framed t kept (by rw [motion]; rfl) (by rw [motion]; rfl),
        by simp [motion, Motion.pulsing, counts, latch, arrives, moving]⟩
  case arrives =>
    rintro ⟨runs, moving, leads⟩ within known ⟨held, rail, steps, wide⟩ arrives
    obtain ⟨t, next, ⟨last, motion⟩, trims, events, -, -⟩ := stepPulseStart_moves
      (P := fun t => MoveArrives s t zone q) runs moving fun u begun => begun.moveArrives moving leads within arrives
    have trimmed := trims hlo hhi known (leads.stands steps wide held rail)
    exact ⟨t, next, by simp [motion, Motion.moveOver, Motion.pulsing, known, trimmed, events, c]⟩
  case goesOn =>
    rintro ⟨runs, moving, leads⟩ within known ⟨held, rail, steps, wide⟩ away
    obtain ⟨t, next, ⟨sl, need, last, motion⟩, keeps, -, -⟩ := stepPulseStart_moves
      (P := fun t => MoveGoesOn s t zone q side) runs moving fun u begun => begun.moveGoesOn moving leads within away
    have kept := keeps hlo hhi known (leads.stands steps wide held rail)
    refine ⟨t, next, ?_⟩
    cases side <;> simp [motion, Motion.pulsing, known, kept, held, keptAhead, c, h]
  case fixes =>
    rintro ⟨runs, relocating, record, stepping⟩ sees legal ⟨held, rail, steps, wide⟩ inside
    obtain ⟨t, next, ⟨sl, last, motion⟩, trims, events, kept, latch⟩ := stepPulseStart_relocates
      (P := fun t => RelocFixes s t p) runs relocating
      fun u begun => begun.relocFixes ⟨relocating, record, stepping⟩ sees legal
    have trimmed := trims hlo hhi (.of_inside steps wide legal held rail inside)
    exact ⟨t, next, framed t kept (by rw [motion]; rfl) (by rw [motion]; rfl),
      by simp [motion, Motion.pulsing, trimmed, latch, events, c]⟩
  case far =>
    rintro ⟨runs, relocating, record, stepping⟩ sees far clear
    exact stepPulseStart_relocates runs relocating fun u begun =>
      loses _ _ (begun.relocLosesTrack ⟨relocating, record, stepping⟩ (.inl ⟨sees, far⟩) clear)
  case searches =>
    rintro ⟨runs, relocating, record, stepping⟩ sees more
    obtain ⟨t, next, ⟨sl, motion⟩, held, kept, latch⟩ := stepPulseStart_relocates
      (P := fun t => RelocSearches s t r) runs relocating
      fun u begun => begun.relocSearches ⟨relocating, record, stepping⟩ sees more
    exact ⟨t, next, framed t kept (by rw [motion]; rfl) (by rw [motion]; rfl),
      by simp [motion, Motion.pulsing, RelocRecord.stepped, relocating, held, latch, h]⟩
  case limit =>
    rintro ⟨runs, relocating, record, stepping⟩ sees limit clear
    exact stepPulseStart_relocates runs relocating fun u begun =>
      loses _ _ (begun.relocReachesLimit ⟨relocating, record, stepping⟩ sees limit clear)
  case wrong =>
    rintro ⟨runs, relocating, record, stepping⟩ beyond other clear
    exact stepPulseStart_relocates runs relocating fun u begun =>
      loses _ _ (begun.relocLosesTrack ⟨relocating, record, stepping⟩ (.inr ⟨beyond, other⟩) clear)
  case ends =>
    intro high
    obtain ⟨d, ends⟩ := exec_stepPulseEnd_of_high high
    exact ⟨_, ends, by simp [SameLatch]⟩
  case expires =>
    intro stalled runs
    obtain ⟨d, expires⟩ := exec_stallTimerExpiry_of_stalled stalled runs
    obtain ⟨⟨dir, fault, memb⟩, ⟨last, motion⟩, held, events⟩ := (s.advance d).moveEnds_endMove .blocked
    generalize ((s.advance d).toIdle.endMove .blocked).kick = t at *
    have trim : (s.advance d).trim.resv.held = s.trim.resv.held :=
      State.held_trim_congr (by simp) (by simp) (by simp) (by simp)
    exact ⟨t, expires, by
      simp [motion, State.toIdle, Motion.moveOver, dir, memb, fault, SameLatch, held, trim, events, State.knownPosition]⟩

end Sys2Proof
